-- ==== Sys2Proof/Word.lean ====
section
/-! DEFINITION. The bit vectors of the model: the byte of every layout (R186) and the 32-bit register of the
data check (R61). Quantities the manual counts with (extent numbers, blocks, seconds, days, ticks) are `Nat`. -/

namespace Sys2Proof

/-- One byte of a layout (R186). -/
abbrev Byte := BitVec 8

/-- The register of the data check (R61). -/
abbrev Word32 := BitVec 32

end Sys2Proof
end

