-- ==== Sys2Proof/Syntax.lean ====
section
/-! DEFINITION. The commands: one constructor of `Instr` for each row of spec/opcode_table.json, in the table's
order. The table gives its rows no operand bits; the operands below carry what reaches the part from outside
with the step (log 4). -/

namespace Sys2Proof

/-- The two archive nodes, and so the two node links (00_scope.md section 1). -/
inductive Node where
  | a | b
  deriving DecidableEq, Repr

/-- The three masters, which are also the three targets of events (R180) and the owners of slots. -/
inductive Master where
  | node (n : Node)
  | cport
  deriving DecidableEq, Repr

/-- A slot of a link or port (R168, R177). -/
structure SlotRef where
  master : Master
  index : Nat
  deriving DecidableEq, Repr

/-- How a capsule is handed over: a hand-over read on a node link, which hands over that link's capsule window
(R165), or an I2C write transaction with the address it names and the bytes the console sends (R175). -/
inductive HandOver where
  | read (n : Node)
  | write (addr : BitVec 7) (bytes : List Byte)
  deriving DecidableEq, Repr

/-- A read that may find nothing to return: a hand-over read (R165), or an I2C read transaction of `len` bytes
(R176). -/
inductive ReceiptRead where
  | link (n : Node)
  | cport (addr : BitVec 7) (len : Nat)
  deriving DecidableEq, Repr

/-- What the part finds outside itself when it starts: the bytes the configuration memory answers with, none
when it does not answer (R183), and the size of the array in blocks, 0 when it gives none (R184). -/
structure StartEnv where
  image : List Byte
  arrayBlocks : Nat
  deriving DecidableEq, Repr

/-- One command for each row of spec/opcode_table.json. -/
inductive Instr where
  | powerOn (env : StartEnv)
  | resetNAssert
  | resetNRelease (env : StartEnv)
  | recoveryVoid
  | start
  | linkReset (n : Node)
  | linkUp (n : Node)
  | msiEnableWrite (n : Node) (enable : Bool)
  | capsuleWindowWrite (n : Node) (offset : Nat) (bytes : List Byte)
  | noCapsule (r : ReceiptRead)
  | badKind (h : HandOver)
  | cportPartialCapsule (addr : BitVec 7) (bytes : List Byte)
  | cportReceiptRead (addr : BitVec 7) (len : Nat)
  | roleChange
  | openExtent (h : HandOver)
  | append (h : HandOver)
  | close (h : HandOver)
  | abandon (h : HandOver)
  | read (h : HandOver)
  | verify (h : HandOver)
  | query (h : HandOver)
  | find (h : HandOver)
  | status (h : HandOver)
  | window (h : HandOver)
  | time (h : HandOver)
  | events (h : HandOver)
  | dispose (h : HandOver)
  | holdPlace (h : HandOver)
  | holdLift (h : HandOver)
  | holdList (h : HandOver)
  | extend (h : HandOver)
  | classSet (h : HandOver)
  | classGet (h : HandOver)
  | policyFix (h : HandOver)
  | adopt (h : HandOver)
  | route (h : HandOver)
  | split (h : HandOver)
  | journalRead (h : HandOver)
  | tick
  | openTimeoutDue (store : Nat)
  | openTimeout (store : Nat)
  | splitTimeout
  | holdover
  | partialPageTime
  | mediaAnswerLimit
  /-- `sent` is the tick count at which the unanswered read request was sent (R172). -/
  | dmaReadTimeout (n : Node) (slot : Nat) (sent : Nat)
  /-- `fragments` are the bytes node memory answered for each fragment, in list order (R43). -/
  | fetchComplete (n : Node) (slot : Nat) (fragments : List (List Byte))
  | fetchFailed (n : Node) (slot : Nat)
  | appendProgramOk
  | appendProgramMediaError
  | trailerOk
  | trailerMediaError
  | mediaFaultVoid (store : Nat)
  /-- `data` are the blocks the array delivered (R75). -/
  | readFetchOk (data : List Byte)
  | readFetchMediaError
  | readDmaComplete (n : Node) (slot : Nat)
  /-- `placed` is how many bytes had been written to node memory at the failure (R66). -/
  | readDmaFailed (n : Node) (slot : Nat) (placed : Nat)
  | verifyFetchOk (data : List Byte)
  | verifyFetchMediaError
  | integrityRecord (slot : SlotRef)
  /-- The page the array delivered, or none for MEDIA_ERROR (R162). -/
  | journalReadFetchDone (page : Option (List Byte))
  | headTake
  | readersDrained
  | scrubCompleteOk
  | disposed
  | scrubMediaError
  | disposalFailed
  | splitApply
  | journalWriteOk
  | journalWriteMediaError
  | coalescedClockState
  /-- `low` is the level of the CMODE line: low selects COMPLIANCE (R178). -/
  | cmodeSample (low : Bool)
  | powerLoss
  deriving DecidableEq, Repr

end Sys2Proof
end

