-- ==== Sys2Proof/Decode.lean ====
section
/-! DEFINITION. spec/opcode_table.json gives none of its rows a bit pattern ("fields" is empty in every row and
no row has "fixed"): a command of this part is an event, not a word. The byte layout of the capsules (R186,
13.1), which is the part's own decoding, stands in Machine/Operands.lean. -/

namespace Sys2Proof

/-- The command a table word spells: none, since the table gives no row any bits. -/
def decodeTableWord (_nbits _w : Nat) : Option Instr := none

end Sys2Proof
end

