-- ==== Sys2Proof/Machine/Bytes.lean ====
section
/-! DEFINITION. Little-endian fields (R186), padding (R187) and the data check (R61). -/

namespace Sys2Proof.Machine

/-- The low `n` bytes of `v`, least significant first (R186). -/
def le : Nat → Nat → List Byte
  | 0, _ => []
  | n + 1, v => BitVec.ofNat 8 v :: le n (v / 256)

/-- A signed field of `n` bytes in two's complement (R186). -/
def leInt (n : Nat) (d : Int) : List Byte :=
  le n (d % (2 ^ (8 * n) : Nat)).toNat

/-- The unsigned value of a little-endian field (R186). -/
def leNat : List Byte → Nat
  | [] => 0
  | b :: bs => b.toNat + 256 * leNat bs

/-- The unsigned field of `size` bytes at `offset`; a byte past the end counts as 0. -/
def field (offset size : Nat) (bytes : List Byte) : Nat :=
  leNat ((bytes.drop offset).take size)

/-- A number from its bits, bit 0 first. -/
def bitsNat : List Bool → Nat
  | [] => 0
  | b :: bs => b.toNat + 2 * bitsNat bs

/-- A flag of 1 byte as the part emits it: 0x00 for no, and 0x01 for yes, where R187 only says that non-zero is read as yes:
DESIGN CHOICE (log 28), unsafe. -/
def flag (b : Bool) : List Byte := [if b then 1 else 0]

/-- `bytes` brought to `n` bytes, bytes that no field occupies reading 0x00 (R187). -/
def padTo (n : Nat) (bytes : List Byte) : List Byte :=
  bytes.take n ++ List.replicate (n - bytes.length) 0

/-- A field of `n` bytes, or all 0xFF where its value is absent (13.4). -/
def orAbsent (n : Nat) : Option Nat → List Byte
  | some v => le n v
  | none => List.replicate n 0xFF

/-- A field of `n` bytes, or all zero where its optional part is absent (R187). -/
def orZero (n : Nat) (v : Option Nat) : List Byte := le n (v.getD 0)

/-- One bit into the register of the data check: shift towards the least significant end, and combine with the
reflected polynomial when the bit shifted out differs from the data bit (R61). -/
def crcBit (reg : Word32) (bit : Bool) : Word32 :=
  if (reg.getLsbD 0) != bit then (reg >>> 1) ^^^ 0xEDB88320#32 else reg >>> 1

/-- One byte into the register, least significant bit first (R61). -/
def crcByte (reg : Word32) (b : Byte) : Word32 :=
  crcBit (crcBit (crcBit (crcBit (crcBit (crcBit (crcBit (crcBit reg
    (b.getLsbD 0)) (b.getLsbD 1)) (b.getLsbD 2)) (b.getLsbD 3)) (b.getLsbD 4)) (b.getLsbD 5)) (b.getLsbD 6))
    (b.getLsbD 7)

/-- The register before any byte, which is the initial running check (R61). -/
def crcInitial : Word32 := 0xFFFFFFFF#32

/-- The register after absorbing bytes in order (R61). -/
def crcAbsorb (reg : Word32) (bytes : List Byte) : Word32 := bytes.foldl crcByte reg

/-- The final exclusive-or (R61). -/
def crcFinal (reg : Word32) : Word32 := reg ^^^ 0xFFFFFFFF#32

/-- The data check of a sequence of bytes (R61). -/
def dataCheck (bytes : List Byte) : Word32 := crcFinal (crcAbsorb crcInitial bytes)

end Sys2Proof.Machine
end

