-- ==== Sys2Proof/Config.lean ====
section
/-! DEFINITION. The limits of the manual (00_scope.md section 7 and the rules named) and the values it leaves
open. A free value is an `opaque` constant with no body: no proof can tell what it is. -/

namespace Sys2Proof.Config

/-- Extent records the table holds (R15). -/
def maxRecords : Nat := 32768
/-- One past the last extent number: every number has been assigned (R11). -/
def numbersEnd : Nat := 4294967296
/-- Data blocks of one extent at most (R1). -/
def maxBlocks : Nat := 4096
/-- Blocks per APPEND, READ or VERIFY run at most (R42, R65, R69). -/
def maxRun : Nat := 32
/-- Bytes in one media block. -/
def blockBytes : Nat := 4096
/-- Free blocks each store needs for a split (R30, R31). -/
def splitFloor : Nat := 8192
/-- Ticks after which a pending split times out (R33). -/
def splitTicks : Nat := 600
/-- Ticks a media operation is waited for (R75). -/
def mediaTicks : Nat := 60
/-- Ticks a DMA read request is waited for (R172). -/
def dmaTicks : Nat := 2
/-- Ticks between two taken marks of one link (R94). -/
def markTicks : Nat := 16
/-- Archive seconds at saturation (R90). -/
def maxSeconds : Nat := 4294967295
/-- Seconds of one archive day (R91). -/
def daySeconds : Nat := 86400
/-- The last value the tick count can hold (R89). -/
def maxTick : Nat := 18446744073709551615
/-- PERMANENT as an expiry day (R115). -/
def permanentDay : Nat := 65535
/-- The cap of a non-permanent expiry day (R115). -/
def capDay : Nat := 65534
/-- Longest class period and longest extension, in days (R108, R117). -/
def maxPeriod : Nat := 36500
/-- Extents per DISPOSE or EXTEND range (R117, R137). -/
def maxRange : Nat := 256
/-- Extents on the disposal queue (R139). -/
def maxQueue : Nat := 1024
/-- Holds on the list (R126). -/
def maxHolds : Nat := 64
/-- Records in the journal buffer (R154). -/
def bufferPlaces : Nat := 64
/-- Records that close the buffer to capsule commands (R155). -/
def backlogMark : Nat := 56
/-- Records of one page (10.3). -/
def pageRecords : Nat := 32
/-- Pages kept after general exhaustion (R160). -/
def reservePages : Nat := 8
/-- Bytes of the capsule window (R165). -/
def windowBytes : Nat := 512
/-- Bytes of the receipt area (R165). -/
def receiptBytes : Nat := 192
/-- The greatest backward offset ADOPT accepts, in seconds (R101). -/
def backwardLimit : Nat := 86400
/-- The greatest overflow count (R161). -/
def maxOverflow : Nat := 4294967295

/-- FREE VALUE (log 7). R89 gives the tick count the range 0 to 2^64 - 1 and says that it grows by 1 at each
tick; it states no value after the last. Applied to State.freeCount for a fresh value each time. -/
opaque freeTick : Nat → BitVec 64

/-- FREE VALUE (log 7). 13.4 gives STATUS section 1 a byte for the kind in flight and R186 gives no codes for
the four kinds of R74. Applied to 0 PROGRAM, 1 FETCH, 2 SCRUB, 3 JOURNAL_WRITE. -/
opaque mediaKindCode : Nat → Byte

/-- FREE VALUE (log 7). 13.4 gives STATUS section 6 a byte for the state of a slot and R186 gives no codes for
the four states of R168. Applied to 0 FREE, 1 RUNNING, 2 FINISHED, 3 DETACHED. -/
opaque slotStateCode : Nat → Byte

/-- FREE VALUE (log 7). 13.2 gives the ROUTE receipt a byte for the forced target of the class; that of
OPEN_TIMEOUT is the link of whichever node opened the extent (R180), and no byte is given for it. -/
opaque openerForcedByte : Byte

/-- FREE VALUE (log 7). R72 leaves in node memory the bytes that a transfer had placed when its link was reset, and gives no
duration by which to count them. Applied to State.freeCount plus the number of the slot. -/
opaque placedBytes : Nat → Nat

end Sys2Proof.Config
end

