-- ==== Sys2Proof/Machine/State.lean ====
section
/-! DEFINITION. The state of the part as plain data: one field per block of 00_scope.md section 3 (Node Link A,
Node Link B, Compliance Port, Extent Table with Key Index, Read and Verify, Store Map, Write Engine, Media
Channel and Arbiter, Archive Clock, Class Table, Hold List, Disposition Engine, Disposition Journal, Event
Router, Configuration Loader), the start-up phase and marker, and the queue of waiting commands. Then the
reset state, and one named update per field. -/

namespace Sys2Proof.Machine

/-! ### Enumerations (R186) -/

/-- The console's role (R178). -/
inductive Role where
  | compliance | examiner
  deriving DecidableEq, Repr

/-- The source of a journal record or of a queue entry (R141, R152): a master, or the part itself. -/
inductive Origin where
  | master (m : Master)
  | device
  deriving DecidableEq, Repr

/-- Where the part stands between power and service (R185): no power, RESET_N held low, start-up begun and not
ended, capsules taken. -/
inductive Phase where
  | off | held | startup | running
  deriving DecidableEq, Repr

/-- What began the start-up (R163). -/
inductive Cause where
  | powerOn | resetN
  deriving DecidableEq, Repr

/-- Extent states (R1). -/
inductive ExtState where
  | opened | closing | committed | disposing | disposalFailed | released | voided
  deriving DecidableEq, Repr

/-- Disposal sub-states (R7). -/
inductive SubState where
  | queued | scrubNext | scrubbing
  deriving DecidableEq, Repr

/-- The in-flight operation of an extent being written (R2). -/
inductive InFlight where
  | nothing | append | close
  deriving DecidableEq, Repr

/-- Outcome of the last VERIFY (R3). -/
inductive Integrity where
  | unverified | good | damaged
  deriving DecidableEq, Repr

/-- Why an extent was voided (R2). -/
inductive VoidCause where
  | timeout | abandoned | mediaFault | interrupted
  deriving DecidableEq, Repr

/-- Store states (R23). -/
inductive StoreState where
  | active | splitting | full
  deriving DecidableEq, Repr

/-- Open-extent timer states (R38). -/
inductive Timer where
  | idle | running | due
  deriving DecidableEq, Repr

/-- Clock states (R92). -/
inductive ClockState where
  | unsynced | locked | holdover | drift
  deriving DecidableEq, Repr

/-- Arbiter modes (R80). -/
inductive ArbMode where
  | fixed | rotating
  deriving DecidableEq, Repr

/-- Stages of the Disposition Engine with its head (9.3). -/
inductive Stage where
  | idle | readers | placed | scrubbing | recording
  deriving DecidableEq, Repr

/-- Event classes (R180). -/
inductive EventClass where
  | completion | fetchFault | openTimeout | storeFull | splitDone | clockState | journalLow | integrity
  | holdLate | disposalFailed | journalFull
  deriving DecidableEq, Repr

/-- Dispositions of a receipt (R165). -/
inductive Disposition where
  | done | taken | pending | refused
  deriving DecidableEq, Repr

/-- Result codes (R190). -/
inductive Code where
  | ok | absorbed | slotsFull | tagConflict | badKind | role | starting | noCapsule | windowClosed
  | fragmentRange | fragmentShape
  | notFound | evicted | badKey | duplicateKey | keyRetired | tableFull | notOpener | notOpen | extentBusy
  | extentFull | empty | extentVoid | notCommitted | gone | badRange
  | badStore | storeBusy | storeFull | storeSpace | splitShape | tooSmall | splitTimeout
  | policyOpen | badClass | classShorten | alreadyFixed | noClasses
  | clockNotDrift | stepRange
  | badMatter | badScope | matterActive | holdListFull | noMatter
  | journalBacklog | journalFull
  | mediaFault | nodeMemoryFault | mismatch
  deriving DecidableEq, Repr

/-- The eight outcomes of a DISPOSE classification, in the order of R138. -/
inductive Outcome where
  | notPresent | notCommitted | already | failedPrior | notExpired | held | complianceOnly | queued
  deriving DecidableEq, Repr

/-! ### Extent Table and Key Index -/

/-- An extent record: the fixed part of R1 and the optional parts of R2 in the order of its table. -/
structure Extent where
  number : Nat
  key : Nat
  group : Nat
  store : Nat
  cls : Nat
  opener : Node
  start : Nat
  count : Nat
  state : ExtState
  lastActivity : Option Nat
  inFlight : Option InFlight
  running : Option Word32
  commitSecond : Option Nat
  provisional : Option Bool
  check : Option Word32
  integrity : Option Integrity
  floor : Option Nat
  lastVerified : Option Nat
  sub : Option SubState
  attempts : Option Nat
  disposalSecond : Option Nat
  voidCause : Option VoidCause
  dispSeq : Option Nat
  deriving DecidableEq, Repr

/-- The Extent Table with the next extent number (R11, R15) and the Key Index (R12); table memory. -/
structure ExtentTable where
  records : List Extent
  next : Nat
  keys : List (Nat × Nat)
  deriving DecidableEq, Repr

/-! ### Store Map -/

/-- A store record (R23). -/
structure Store where
  base : Nat
  limit : Nat
  frontier : Nat
  reservation : Nat
  openExtent : Option Nat
  state : StoreState
  deriving DecidableEq, Repr

/-- A pending split: its target, its acceptance tick and the CPORT slot that waits for it (R23). -/
structure PendingSplit where
  target : Nat
  accepted : Nat
  slot : Nat
  deriving DecidableEq, Repr

/-- The Store Map (R23); table memory. -/
structure StoreMap where
  regionBase : Nat
  regionSize : Nat
  stores : List Store
  split : Option PendingSplit
  deriving DecidableEq, Repr

/-! ### Write Engine -/

/-- A staging area (R37). -/
inductive Staging where
  | empty
  | filling
  | held (data : List Byte)
  deriving DecidableEq, Repr

/-- What the Write Engine keeps for one store (R37, R38). -/
structure WriteUnit where
  staging : Staging
  timer : Timer
  deriving DecidableEq, Repr

/-! ### Slots and receipts -/

/-- One area of node memory (R170). -/
structure Fragment where
  addr : Nat
  len : Nat
  deriving DecidableEq, Repr

/-- An APPEND in its slot; `dma` is the tick at which its transfer began, while the transfer runs (R172). -/
structure AppendWork where
  ext : Nat
  blocks : Nat
  fragments : List Fragment
  dma : Option Nat
  deriving DecidableEq, Repr

/-- A READ in its slot with its read buffer (R66). -/
structure ReadWork where
  ext : Nat
  offset : Nat
  blocks : Nat
  fragments : List Fragment
  buffer : List Byte
  dma : Option Nat
  deriving DecidableEq, Repr

/-- What a VERIFY found wrong (R71). -/
inductive Damage where
  | mismatch (recomputed : Word32)
  | mediaFault (offset : Nat) (blocks : Nat)
  deriving DecidableEq, Repr

/-- A VERIFY in its slot (R68). -/
structure VerifyWork where
  ext : Nat
  register : Word32
  offset : Nat
  verified : Nat
  damage : Option Damage
  deriving DecidableEq, Repr

/-- A DISPOSE in its slot (R140). -/
structure DisposeWork where
  first : Nat
  last : Nat
  counts : List Nat
  queued : Nat
  released : Nat
  returned : Nat
  failed : Nat
  deriving DecidableEq, Repr

/-- The operation a slot holds (R167, R168). -/
inductive Work where
  | append (w : AppendWork)
  | close (ext : Nat)
  | read (w : ReadWork)
  | verify (w : VerifyWork)
  | dispose (w : DisposeWork)
  | split
  | journalRead (seq : Nat) (page : Nat)
  deriving DecidableEq, Repr

/-- The tag and the copy of the capsule a slot holds (R168). -/
structure Held where
  tag : Byte
  capsule : List Byte
  deriving DecidableEq, Repr

/-- A stored result: its code and the bytes of its fields (R168, 13.2). -/
structure Result where
  code : Code
  fields : List Byte
  deriving DecidableEq, Repr

/-- A slot (R168). -/
inductive Slot where
  | free
  | running (h : Held) (w : Work)
  | finished (h : Held) (r : Result)
  | detached (w : Work)
  deriving DecidableEq, Repr

/-- A receipt (13.2); its bytes are `Receipt.bytes` of Machine/Layout.lean. -/
structure Receipt where
  kind : Byte
  tag : Byte
  disposition : Disposition
  code : Code
  slot : Option Nat
  role : Option Role
  fields : List Byte
  deriving DecidableEq, Repr

/-- A node link (R165, R168, R171, R173, R94). `receipt` is what stands in the receipt area, none for all zero
bytes. `dmaOut` is the model's own latch of the last READ transfer's writes to node memory (log 11). -/
structure LinkState where
  up : Bool
  msiEnabled : Bool
  mark : Bool
  window : List Byte
  receipt : Option Receipt
  slots : List Slot
  base : Nat
  limit : Nat
  spacing : Option Nat
  dmaOut : List Host.Cell
  deriving DecidableEq, Repr

/-- The last receipt of CPORT with its READ mark (R176). -/
structure LastReceipt where
  receipt : Receipt
  isRead : Bool
  deriving DecidableEq, Repr

/-- The Compliance Port (R175 to R178), with the page buffer of each of its slots (R74, R162, R177). `readOut` is the
model's own latch of the bytes the last I2C read returned (log 11). -/
structure CPort where
  slots : List Slot
  pageBuffers : List (List Byte)
  last : Option LastReceipt
  role : Role
  candidate : Role
  count : Nat
  readOut : List Byte
  deriving DecidableEq, Repr

/-! ### Media Channel and Media Arbiter -/

/-- Who placed a media operation, and so of which kind it is (R77). -/
inductive Requester where
  | append (store : Nat)
  | trailer (store : Nat)
  | read (slot : SlotRef)
  | verify (slot : SlotRef)
  | journalRead (slot : SlotRef)
  | scrub (ext : Nat)
  | journalWrite (page : Nat)
  deriving DecidableEq, Repr

/-- An entry of the wait list (R77). -/
structure MediaOp where
  requester : Requester
  origin : Option Master
  first : Nat
  count : Nat
  deriving DecidableEq, Repr

/-- The operation in flight with the tick of its issue (R75, R76). -/
structure InFlightOp where
  op : MediaOp
  issued : Nat
  deriving DecidableEq, Repr

/-- The Media Channel (`none` is FREE) and the Media Arbiter's wait list and turn order (R76, R77, R82). -/
structure Media where
  channel : Option InFlightOp
  waiting : List MediaOp
  turn : List Master
  deriving DecidableEq, Repr

/-! ### Archive Clock -/

/-- The last far mark (R92). -/
structure FarMark where
  reference : Nat
  receipt : Nat
  deriving DecidableEq, Repr

/-- The Archive Clock (R89, R90, R92). Only `seconds` is table memory. -/
structure Clock where
  seconds : Nat
  tick : Nat
  state : ClockState
  advance : Nat
  retard : Nat
  skip : Bool
  streak : Nat
  farMark : Option FarMark
  holdover : Nat
  deriving DecidableEq, Repr

/-! ### Class Table -/

/-- A class entry (R108). -/
structure ClassEntry where
  defined : Bool
  period : Nat
  permanent : Bool
  complianceOnly : Bool
  deriving DecidableEq, Repr

/-- The sixteen classes and the policy-fixed latch (R108, R109); table memory. -/
structure ClassTable where
  entries : List ClassEntry
  fixed : Bool
  deriving DecidableEq, Repr

/-! ### Hold List -/

/-- The scope of a hold (R123). -/
structure Scope where
  group : Option Nat
  days : Option (Nat × Nat)
  extents : Option (Nat × Nat)
  deriving DecidableEq, Repr

/-- A hold (R121). -/
structure Hold where
  matter : Nat
  placed : Nat
  scope : Scope
  late : Nat
  deriving DecidableEq, Repr

/-- The Hold List (R121); table memory. -/
structure HoldList where
  list : List Hold
  revision : Nat
  deriving DecidableEq, Repr

/-! ### Disposition Engine -/

/-- An entry of the disposal queue (R141). -/
structure QueueEntry where
  ext : Nat
  origin : Origin
  slot : Option SlotRef
  deriving DecidableEq, Repr

/-- The Disposition Engine (R141, 9.3). The head is the first entry whenever the stage is not IDLE. -/
structure Engine where
  queue : List QueueEntry
  stage : Stage
  deriving DecidableEq, Repr

/-! ### Disposition Journal -/

/-- The subject of a journal record, one constructor per kind in the order of the kind codes (R152, R189). -/
inductive Subject where
  | voided (ext key store : Nat) (cause : VoidCause) (start count : Nat)
  | disposed (ext key group cls commit expiry : Nat) (check : Word32) (integrity : Integrity) (attempts : Nat)
  | disposalFailed (ext group cls commit attempts : Nat)
  | integrity (ext : Nat) (damage : Damage) (check : Word32)
  | holdPlaced (matter : Nat) (scope : Scope) (position : Nat)
  | holdLate (matter ext group day attempts : Nat)
  | holdLifted (matter placed : Nat) (scope : Scope) (late position : Nat)
  | extended (first last days extended unchanged notRetained notPresent : Nat)
  | classSet (cls : Nat) (before after : ClassEntry)
  | policyFixed (entries : List ClassEntry)
  | splitDone (old new : Nat) (boundaries : List Nat)
  | clockState (before after : ClockState) (changes : Nat)
  | clockAdopted (before after : Nat) (d : Int) (retard : Nat) (mark : FarMark)
  | start (cause : Cause) (initialized : Bool) (seconds : Nat) (state : ClockState)
      (voided requeued found pages skipped : Nat)
  deriving DecidableEq, Repr

/-- A journal record (R152). -/
structure Record where
  seq : Nat
  seconds : Nat
  origin : Origin
  subject : Subject
  check : Word32
  deriving DecidableEq, Repr

/-- A buffered record with its entry tick (R154). -/
structure BufEntry where
  record : Record
  entered : Nat
  deriving DecidableEq, Repr

/-- An entry of the page list (R158). -/
inductive PageEntry where
  | issued (first : Nat) (records : Nat)
  | written (first : Nat) (records : Nat)
  | faulted
  deriving DecidableEq, Repr

/-- The unrecorded-change mark with its two values (R156). -/
structure ChangeMark where
  before : ClockState
  count : Nat
  deriving DecidableEq, Repr

/-- A request for a journal place that has not been granted (R155). -/
inductive PlaceRequest where
  | recovery (ext : Nat)
  | start
  | mediaFault (store : Nat)
  | openTimeout (store : Nat)
  | integrity (slot : SlotRef)
  | disposed
  | disposalFailed
  | splitDone
  deriving DecidableEq, Repr

/-- The Disposition Journal (R152 to R161). `mark`, `waits` and the entry ticks are volatile. -/
structure Journal where
  base : Nat
  pages : Nat
  buffer : List BufEntry
  nextSeq : Nat
  lastCheck : Word32
  counter : Nat
  pageList : List PageEntry
  overflow : Nat
  mark : Option ChangeMark
  waits : List PlaceRequest
  deriving DecidableEq, Repr

/-! ### Event Router, Configuration Loader, start-up -/

/-- A route (R180). -/
structure Route where
  a : Bool
  b : Bool
  cport : Bool
  deriving DecidableEq, Repr

/-- The Event Router (R180, R181): pending sets, the route of each class by its number (those of COMPLETION and
FETCH_FAULT stand empty and are never changed), and the model's own counters of the messages each link has sent
(log 11). -/
structure EventRouter where
  setA : List EventClass
  setB : List EventClass
  setC : List EventClass
  routes : List Route
  msiA : Nat
  msiB : Nat
  deriving DecidableEq, Repr

/-- The settings read at every start-up and the skipped-entry count (R183). -/
structure Settings where
  cportAddr : BitVec 7
  cmodeN : Nat
  openTimeout : Nat
  holdoverTime : Nat
  partialTime : Nat
  arbiter : ArbMode
  skipped : Nat
  deriving DecidableEq, Repr

/-- What the START record will carry (R163). -/
structure Startup where
  cause : Cause
  initialized : Bool
  voided : Nat
  requeued : Nat
  found : Nat
  pagesFound : Nat
  deriving DecidableEq, Repr

/-! ### The machine -/

/-- The state of the part. -/
structure State where
  /-- where the part stands between power and service (R185) -/
  phase : Phase
  /-- what this start-up has found (R163) -/
  startup : Startup
  /-- the initialized marker; table memory (R184) -/
  marker : Bool
  /-- the settings of the configuration image (R183) -/
  settings : Settings
  /-- Node Link A -/
  linkA : LinkState
  /-- Node Link B -/
  linkB : LinkState
  /-- the Compliance Port -/
  cport : CPort
  /-- the Extent Table and Key Index; table memory -/
  et : ExtentTable
  /-- the reader count of each extent that has readers (R63) -/
  readers : List (Nat × Nat)
  /-- the Store Map; table memory -/
  storeMap : StoreMap
  /-- the staging area and timer of each of four stores (R37, R38) -/
  write : List WriteUnit
  /-- the Media Channel and Media Arbiter -/
  media : Media
  /-- the Archive Clock -/
  clock : Clock
  /-- the Class Table; table memory -/
  classes : ClassTable
  /-- the Hold List; table memory -/
  holds : HoldList
  /-- the Disposition Engine -/
  engine : Engine
  /-- the Disposition Journal -/
  journal : Journal
  /-- the Event Router -/
  router : EventRouter
  /-- the model's own: how many fresh free values have been drawn (log 7) -/
  freeCount : Nat
  /-- the model's own: the commands waiting, first in first out (log 1) -/
  pending : List Instr
  deriving DecidableEq, Repr

/-- Why the part's step stops. -/
inductive Fault where
  /-- Raised by CAPSULE_WINDOW_WRITE with a write that does not lie within the 512 bytes of the capsule window:
  the manual gives the window no such address (R165). Safe: the part goes on, and no claim about such a write
  can be proved (log 16). -/
  | outsideWindow
  deriving DecidableEq, Repr

/-- Why the model gives a command no meaning. -/
inductive Refusal where
  /-- Raised by an arm of `exec` for a command that has no meaning yet; no arm does. Safe. -/
  | notModelled (mnemonic : String)
  deriving DecidableEq, Repr

/-! ### Reset values -/

/-- A link after POWER_ON and RESET_N (R165, R168, R171, R173, R94). -/
def LinkState.reset : LinkState where
  up := false
  msiEnabled := false
  mark := false
  window := List.replicate 512 0
  receipt := none
  slots := List.replicate 8 .free
  base := 1
  limit := 0
  spacing := none
  dmaOut := []

/-- CPORT after POWER_ON and RESET_N (R176 to R178); the candidate is a DESIGN CHOICE (log 6). -/
def CPort.reset : CPort where
  slots := List.replicate 2 .free
  pageBuffers := [[], []]
  last := none
  role := .examiner
  candidate := .examiner
  count := 0
  readOut := []

/-- The defaults of R183. -/
def Settings.reset : Settings where
  cportAddr := 0x52
  cmodeN := 4
  openTimeout := 120
  holdoverTime := 900
  partialTime := 60
  arbiter := .rotating
  skipped := 0

/-- The routes of R180 after POWER_ON and RESET_N, in class order. -/
def Route.defaults : List Route :=
  [⟨false, false, false⟩, ⟨false, false, false⟩, ⟨false, false, true⟩, ⟨true, true, true⟩, ⟨true, true, true⟩,
   ⟨true, true, true⟩, ⟨true, true, true⟩, ⟨false, false, true⟩, ⟨false, false, true⟩, ⟨false, false, true⟩,
   ⟨false, false, true⟩]

/-- The router after POWER_ON and RESET_N (R180, R181). -/
def EventRouter.reset : EventRouter where
  setA := []
  setB := []
  setC := []
  routes := Route.defaults
  msiA := 0
  msiB := 0

/-- The clock after POWER_ON and RESET_N, at the archive seconds found in table memory (R105). -/
def Clock.reset (seconds : Nat) : Clock where
  seconds := seconds
  tick := 0
  state := .unsynced
  advance := 0
  retard := 0
  skip := false
  streak := 0
  farMark := none
  holdover := 0

/-- Channel and arbiter after POWER_ON and RESET_N (R87). -/
def Media.reset : Media where
  channel := none
  waiting := []
  turn := [.node .a, .node .b, .cport]

/-- Staging areas and timers after POWER_ON and RESET_N (R37, R38). -/
def WriteUnit.resetAll : List WriteUnit := List.replicate 4 ⟨.empty, .idle⟩

/-- An undefined class entry (R108). -/
def ClassEntry.blank : ClassEntry where
  defined := false
  period := 0
  permanent := false
  complianceOnly := false

/-- The part unpowered and never initialized: every volatile item at its value after POWER_ON and RESET_N, and
table memory blank, without the initialized marker. The phase and the blank contents of table memory, which
initialization overwrites before anything reads them, are DESIGN CHOICES (log 5). -/
def State.reset : State where
  phase := .off
  startup := ⟨.powerOn, false, 0, 0, 0, 0⟩
  marker := false
  settings := Settings.reset
  linkA := LinkState.reset
  linkB := LinkState.reset
  cport := CPort.reset
  et := ⟨[], 1, []⟩
  readers := []
  storeMap := ⟨0, 0, [], none⟩
  write := WriteUnit.resetAll
  media := Media.reset
  clock := Clock.reset 0
  classes := ⟨List.replicate 16 ClassEntry.blank, false⟩
  holds := ⟨[], 0⟩
  engine := ⟨[], .idle⟩
  journal := ⟨0, 0, [], 1, 0, 0, [], 0, none, []⟩
  router := EventRouter.reset
  freeCount := 0
  pending := []

/-! ### One named update per field -/

/-- Replaces `phase`. -/
def State.withPhase (s : State) (v : Phase) : State := { s with phase := v }

/-- Replaces `startup`. -/
def State.withStartup (s : State) (v : Startup) : State := { s with startup := v }

/-- Replaces `marker`. -/
def State.withMarker (s : State) (v : Bool) : State := { s with marker := v }

/-- Replaces `settings`. -/
def State.withSettings (s : State) (v : Settings) : State := { s with settings := v }

/-- Replaces `linkA`. -/
def State.withLinkA (s : State) (v : LinkState) : State := { s with linkA := v }

/-- Replaces `linkB`. -/
def State.withLinkB (s : State) (v : LinkState) : State := { s with linkB := v }

/-- Replaces `cport`. -/
def State.withCport (s : State) (v : CPort) : State := { s with cport := v }

/-- Replaces `et`. -/
def State.withEt (s : State) (v : ExtentTable) : State := { s with et := v }

/-- Replaces `readers`. -/
def State.withReaders (s : State) (v : List (Nat × Nat)) : State := { s with readers := v }

/-- Replaces `storeMap`. -/
def State.withStoreMap (s : State) (v : StoreMap) : State := { s with storeMap := v }

/-- Replaces `write`. -/
def State.withWrite (s : State) (v : List WriteUnit) : State := { s with write := v }

/-- Replaces `media`. -/
def State.withMedia (s : State) (v : Media) : State := { s with media := v }

/-- Replaces `clock`. -/
def State.withClock (s : State) (v : Clock) : State := { s with clock := v }

/-- Replaces `classes`. -/
def State.withClasses (s : State) (v : ClassTable) : State := { s with classes := v }

/-- Replaces `holds`. -/
def State.withHolds (s : State) (v : HoldList) : State := { s with holds := v }

/-- Replaces `engine`. -/
def State.withEngine (s : State) (v : Engine) : State := { s with engine := v }

/-- Replaces `journal`. -/
def State.withJournal (s : State) (v : Journal) : State := { s with journal := v }

/-- Replaces `router`. -/
def State.withRouter (s : State) (v : EventRouter) : State := { s with router := v }

/-- Replaces `freeCount`. -/
def State.withFreeCount (s : State) (v : Nat) : State := { s with freeCount := v }

/-- Replaces `pending`. -/
def State.withPending (s : State) (v : List Instr) : State := { s with pending := v }

end Sys2Proof.Machine
end

