-- ==== Sys2Proof/Machine/Flags.lean ====
section
/-! DEFINITION. The conditions the part computes when asked and never stores: archive day (R91), effective expiry
day (R115), expired (R116), coverage and held (R124), custodian-only (R20), the space state of the journal
(R160), room for records (R155), the power conditions of R185, and the ALERT line (R181). -/

namespace Sys2Proof.Machine

/-! ### Power -/

/-- The part is powered and out of reset: links, ports, ticks and CMODE samples act (R185). -/
def State.live (s : State) : Bool :=
  match s.phase with
  | .startup => true
  | .running => true
  | .off => false
  | .held => false

/-- Capsules are taken (R163). -/
def State.taking (s : State) : Bool :=
  match s.phase with
  | .running => true
  | _ => false

/-! ### Time -/

/-- The archive day (R91). -/
def State.day (s : State) : Nat := s.clock.seconds / Config.daySeconds

/-- The commit second came from a clock the part had not confirmed (R51). -/
def ClockState.provisional : ClockState → Bool
  | .unsynced => true
  | .drift => true
  | .locked => false
  | .holdover => false

/-! ### Extents -/

/-- The retained states (1.2). -/
def Extent.retained (r : Extent) : Bool :=
  match r.state with
  | .committed => true
  | .disposing => true
  | .disposalFailed => true
  | _ => false

/-- The tombstone states (1.2). -/
def Extent.tombstone (r : Extent) : Bool :=
  match r.state with
  | .released => true
  | .voided => true
  | _ => false

/-- The states in which an extent holds its store (1.2). -/
def Extent.writing (r : Extent) : Bool :=
  match r.state with
  | .opened => true
  | .closing => true
  | _ => false

/-- OPEN with no operation in flight, the state the open timeout counts in (R38). -/
def Extent.quietOpen (r : Extent) : Bool := r.state == .opened && r.inFlight == some .nothing

/-- The readable states (R64). -/
def Extent.readable (r : Extent) : Bool :=
  match r.state with
  | .committed => true
  | .disposalFailed => true
  | .disposing => r.sub == some .queued
  | _ => false

/-- DISPOSING at SCRUBBING. -/
def Extent.isScrubbing (r : Extent) : Bool := r.state == .disposing && r.sub == some .scrubbing

/-- The record of a number (R4). -/
def State.extent (s : State) (n : Nat) : Option Extent := s.et.records.find? (fun r => r.number == n)

/-- The extent a key is mapped to (R12). -/
def State.keyOwner (s : State) (k : Nat) : Option Nat :=
  (s.et.keys.find? (fun p => p.1 == k)).map (·.2)

/-- The reader count of an extent, 0 without an entry (R63). -/
def State.readerCount (s : State) (n : Nat) : Nat :=
  ((s.readers.find? (fun p => p.1 == n)).map (·.2)).getD 0

/-! ### Expiry -/

/-- A class entry, undefined for a number above 15 (R108). -/
def State.classEntry (s : State) (c : Nat) : ClassEntry := (s.classes.entries[c]?).getD ClassEntry.blank

/-- The commit day (R115). -/
def Extent.commitDay (r : Extent) : Nat := r.commitSecond.getD 0 / Config.daySeconds

/-- The effective expiry day of a retained extent under its class entry (R115). -/
def expiryDay (e : ClassEntry) (r : Extent) : Nat :=
  if e.permanent || r.floor == some Config.permanentDay then Config.permanentDay
  else min Config.capDay (max (r.commitDay + e.period) (r.floor.getD 0))

/-- The effective expiry day as things stand (R115). -/
def State.expiry (s : State) (r : Extent) : Nat := expiryDay (s.classEntry r.cls) r

/-- The expired condition (R116). -/
def State.expired (s : State) (r : Extent) : Bool :=
  s.expiry r != Config.permanentDay && decide (s.expiry r < s.day)

/-- The custodian-only condition (R20). -/
def State.custodianOnly (s : State) (r : Extent) : Bool :=
  (s.classEntry r.cls).complianceOnly || r.provisional == some true

/-! ### Holds -/

/-- A value lies in an optional inclusive range; an absent range is satisfied (R124). -/
def inRange (v : Nat) : Option (Nat × Nat) → Bool
  | none => true
  | some (first, last) => decide (first ≤ v) && decide (v ≤ last)

/-- Coverage of an extent by a scope (R124). -/
def Scope.covers (c : Scope) (r : Extent) : Bool :=
  r.retained &&
    (match c.group with | none => true | some g => r.group == g) &&
    inRange r.commitDay c.days && inRange r.number c.extents

/-- The held condition (R124). -/
def State.isHeld (s : State) (r : Extent) : Bool := s.holds.list.any (fun h => h.scope.covers r)

/-- The issue-time check: expired, and covered by no active hold (R143). -/
def State.mayScrub (s : State) (n : Nat) : Bool :=
  match s.extent n with
  | some r => s.expired r && !s.isHeld r
  | none => false

/-! ### Journal -/

/-- An ISSUED entry of the page list. -/
def PageEntry.isIssued : PageEntry → Bool
  | .issued _ _ => true
  | _ => false

/-- A FAULTED entry of the page list. -/
def PageEntry.isFaulted : PageEntry → Bool
  | .faulted => true
  | _ => false

/-- The pages used: the page counter, plus 1 while an entry is ISSUED (R158). -/
def Journal.used (j : Journal) : Nat := j.counter + if j.pageList.any (·.isIssued) then 1 else 0

/-- The pages used at which JOURNAL_LOW comes (R160). -/
def Journal.lowMark (j : Journal) : Nat := j.pages - j.pages / 16

/-- The pages used at which general journal space is exhausted (R160). -/
def Journal.exhaustMark (j : Journal) : Nat := j.pages - Config.reservePages

/-- General journal space is exhausted (R160). -/
def Journal.exhausted (j : Journal) : Bool := decide (j.exhaustMark ≤ j.used)

/-- The region is entirely full (R161). -/
def Journal.full (j : Journal) : Bool := decide (j.pages ≤ j.counter)

/-- The space state: 0 NORMAL, 1 LOW, 2 EXHAUSTED, 3 FULL (R160, 13.4). -/
def Journal.space (j : Journal) : Nat :=
  if j.full then 3 else if j.exhausted then 2 else if j.lowMark ≤ j.used then 1 else 0

/-- The flushed mark: the oldest buffered sequence, or the next sequence (R154). -/
def Journal.flushed (j : Journal) : Nat :=
  match j.buffer with
  | [] => j.nextSeq
  | e :: _ => e.record.seq

/-- How many records the buffer holds. -/
def Journal.buffered (j : Journal) : Nat := j.buffer.length

/-- A buffer place is free (R155). -/
def Journal.hasPlace (j : Journal) : Bool := decide (j.buffered < Config.bufferPlaces)

/-- The buffer is closed to capsule commands (R155). -/
def Journal.backlog (j : Journal) : Bool := decide (Config.backlogMark ≤ j.buffered)

/-- The sequence a record entered now would get, or none where it would be counted instead (R152, R161). -/
def Journal.nextPlace (j : Journal) : Option Nat := if j.hasPlace then some j.nextSeq else none

/-- A record that the part asks for now is entered, or counted where the region is entirely full (R155, R161). -/
def Journal.takesNow (j : Journal) : Bool := j.hasPlace || j.full

/-- A request made now is granted in the step of the request: nothing waits before it (R155). -/
def Journal.grants (j : Journal) : Bool := j.waits.isEmpty && j.mark.isNone && j.takesNow

/-- The request is the first that waits, no unrecorded change stands before it, and it may be granted now (R155,
R161). -/
def Journal.grantable (j : Journal) (r : PlaceRequest) : Bool := j.mark.isNone && j.waits.head? == some r && j.takesNow

/-! ### Signals -/

/-- The ALERT line is asserted (R181). -/
def State.alert (s : State) : Bool := !s.router.setC.isEmpty

end Sys2Proof.Machine
end

