-- ==== Sys2Proof/Machine/Layout.lean ====
section
/-! DEFINITION. Every byte layout the part emits (Chapter 13): the codes of the enumerations (R186) and results
(R190), receipts (13.2), the returned extent record (13.3), the trailer (R188) and the journal record (R189). -/

namespace Sys2Proof.Machine

/-! ### Codes of the enumerations (R186, R190) -/

/-- Origin and opener codes (R186). -/
def Origin.code : Origin → Nat
  | .master (.node .a) => 1
  | .master (.node .b) => 2
  | .master .cport => 3
  | .device => 4

/-- The code of a master (R186). -/
def masterCode (m : Master) : Nat := (Origin.master m).code

/-- The code of an opener (R186). -/
def nodeCode (n : Node) : Nat := masterCode (.node n)

/-- Extent state codes (R186). -/
def ExtState.code : ExtState → Nat
  | .opened => 1
  | .closing => 2
  | .committed => 3
  | .disposing => 4
  | .disposalFailed => 5
  | .released => 6
  | .voided => 7

/-- Disposal sub-state codes (R186). -/
def SubState.code : SubState → Nat
  | .queued => 1
  | .scrubNext => 2
  | .scrubbing => 3

/-- In-flight operation codes (R186). -/
def InFlight.code : InFlight → Nat
  | .nothing => 0
  | .append => 1
  | .close => 2

/-- Integrity codes (R186). -/
def Integrity.code : Integrity → Nat
  | .unverified => 0
  | .good => 1
  | .damaged => 2

/-- Void cause codes (R186). -/
def VoidCause.code : VoidCause → Nat
  | .timeout => 1
  | .abandoned => 2
  | .mediaFault => 3
  | .interrupted => 4

/-- Clock state codes (R186). -/
def ClockState.code : ClockState → Nat
  | .unsynced => 0
  | .locked => 1
  | .holdover => 2
  | .drift => 3

/-- Store state codes (R186). -/
def StoreState.code : StoreState → Nat
  | .active => 0
  | .splitting => 1
  | .full => 2

/-- Disposition codes (R186). -/
def Disposition.code : Disposition → Nat
  | .done => 1
  | .taken => 2
  | .pending => 3
  | .refused => 4

/-- Event class bit numbers (R186). -/
def EventClass.code : EventClass → Nat
  | .completion => 0
  | .fetchFault => 1
  | .openTimeout => 2
  | .storeFull => 3
  | .splitDone => 4
  | .clockState => 5
  | .journalLow => 6
  | .integrity => 7
  | .holdLate => 8
  | .disposalFailed => 9
  | .journalFull => 10

/-- Every event class. -/
def EventClass.all : List EventClass :=
  [.completion, .fetchFault, .openTimeout, .storeFull, .splitDone, .clockState, .journalLow, .integrity, .holdLate,
   .disposalFailed, .journalFull]

/-- The class with a given number; none for an unknown class (R182). -/
def EventClass.ofCode (n : Nat) : Option EventClass := EventClass.all[n]?

/-- Stage codes (13.4). -/
def Stage.code : Stage → Nat
  | .idle => 0
  | .readers => 1
  | .placed => 2
  | .scrubbing => 3
  | .recording => 4

/-- Arbiter mode codes (13.4). -/
def ArbMode.code : ArbMode → Nat
  | .fixed => 0
  | .rotating => 1

/-- Role codes (13.2). -/
def Role.code : Role → Nat
  | .compliance => 0
  | .examiner => 1

/-- Start-up cause codes (R189). -/
def Cause.code : Cause → Nat
  | .powerOn => 1
  | .resetN => 2

/-- Result codes: each numbered from the first code of its group (R190). -/
def Code.num : Code → Nat
  | .ok => 0x00
  | .absorbed => 0x01
  | .slotsFull => 0x02
  | .tagConflict => 0x03
  | .badKind => 0x04
  | .role => 0x05
  | .starting => 0x06
  | .noCapsule => 0x07
  | .windowClosed => 0x08
  | .fragmentRange => 0x09
  | .fragmentShape => 0x0A
  | .notFound => 0x10
  | .evicted => 0x11
  | .badKey => 0x12
  | .duplicateKey => 0x13
  | .keyRetired => 0x14
  | .tableFull => 0x15
  | .notOpener => 0x16
  | .notOpen => 0x17
  | .extentBusy => 0x18
  | .extentFull => 0x19
  | .empty => 0x1A
  | .extentVoid => 0x1B
  | .notCommitted => 0x1C
  | .gone => 0x1D
  | .badRange => 0x1E
  | .badStore => 0x20
  | .storeBusy => 0x21
  | .storeFull => 0x22
  | .storeSpace => 0x23
  | .splitShape => 0x24
  | .tooSmall => 0x25
  | .splitTimeout => 0x26
  | .policyOpen => 0x28
  | .badClass => 0x29
  | .classShorten => 0x2A
  | .alreadyFixed => 0x2B
  | .noClasses => 0x2C
  | .clockNotDrift => 0x30
  | .stepRange => 0x31
  | .badMatter => 0x38
  | .badScope => 0x39
  | .matterActive => 0x3A
  | .holdListFull => 0x3B
  | .noMatter => 0x3C
  | .journalBacklog => 0x40
  | .journalFull => 0x41
  | .mediaFault => 0x48
  | .nodeMemoryFault => 0x49
  | .mismatch => 0x4A

/-! ### Shared pieces -/

/-- A route byte: bit 0 Link A, bit 1 Link B, bit 2 CPORT (R186). -/
def Route.byte (r : Route) : Nat := r.a.toNat + 2 * r.b.toNat + 4 * r.cport.toNat

/-- A route from its byte; bits above bit 2 are ignored (R187). -/
def Route.ofByte (n : Nat) : Route := ⟨n.testBit 0, n.testBit 1, n.testBit 2⟩

/-- A set of event classes as one bit per class (13.2). -/
def classBits (l : List EventClass) : Nat :=
  (EventClass.all.map (fun c => if l.contains c then 2 ^ c.code else 0)).sum

/-- A scope in its sixteen bytes: presence, pad, group, days, extents; an absent part reads 0 (13.1, R187). -/
def Scope.bytes (c : Scope) : List Byte :=
  le 1 (c.group.isSome.toNat + 2 * c.days.isSome.toNat + 4 * c.extents.isSome.toNat) ++ [0] ++ orZero 2 c.group ++
    orZero 2 (c.days.map (·.1)) ++ orZero 2 (c.days.map (·.2)) ++
    orZero 4 (c.extents.map (·.1)) ++ orZero 4 (c.extents.map (·.2))

/-- A class entry in the three bytes of a journal record (R189). -/
def ClassEntry.recordBytes (e : ClassEntry) : List Byte :=
  le 2 e.period ++ le 1 (e.defined.toNat + 2 * e.permanent.toNat + 4 * e.complianceOnly.toNat)

/-- A class entry in the seven bytes of a capsule or receipt: flags, mode, period (13.1, 13.2). -/
def ClassEntry.receiptBytes (e : ClassEntry) : List Byte :=
  flag e.defined ++ flag e.permanent ++ flag e.complianceOnly ++ le 4 e.period

/-! ### Receipts (13.2) -/

/-- The bytes of a receipt. -/
def Receipt.bytes (r : Receipt) : List Byte :=
  le 2 (8 + r.fields.length) ++ [r.kind, r.tag] ++ le 1 r.disposition.code ++ le 1 r.code.num ++
    orAbsent 1 r.slot ++ orAbsent 1 (r.role.map Role.code) ++ r.fields

/-- The 192 bytes of a link's receipt area (R165). -/
def LinkState.receiptArea (l : LinkState) : List Byte :=
  padTo Config.receiptBytes ((l.receipt.map Receipt.bytes).getD [])

/-! ### The returned extent record (13.3) -/

/-- The presence bits of the optional parts, bit n for the n-th of R2's table (13.3). -/
def Extent.presence (r : Extent) : Nat :=
  bitsNat [r.lastActivity.isSome, r.inFlight.isSome, r.running.isSome, r.commitSecond.isSome, r.provisional.isSome,
    r.check.isSome, r.integrity.isSome, r.floor.isSome, r.lastVerified.isSome, r.sub.isSome, r.attempts.isSome,
    r.disposalSecond.isSome, r.voidCause.isSome, r.dispSeq.isSome]

/-- The derived conditions of a retained extent: bit 0 expired, bit 1 held, bit 2 custodian-only, bit 7 present;
0 where they are absent (R20, 13.3). -/
def State.derivedBits (s : State) (r : Extent) : Nat :=
  if r.retained then
    (s.expired r).toNat + 2 * (s.isHeld r).toNat + 4 * (s.custodianOnly r).toNat + 128
  else 0

/-- The record that QUERY and FIND return, with the reader count and the derived conditions of the moment
(R19, 13.3). -/
def State.extentRecord (s : State) (r : Extent) : List Byte :=
  le 4 r.number ++ le 8 r.key ++ le 2 r.group ++ le 1 r.store ++ le 1 r.cls ++ le 1 (nodeCode r.opener) ++
    le 1 r.state.code ++ le 2 r.presence ++ le 4 r.start ++ le 2 r.count ++ le 1 (s.readerCount r.number) ++
    orZero 1 (r.inFlight.map InFlight.code) ++ orZero 8 r.lastActivity ++ orZero 4 (r.running.map BitVec.toNat) ++
    orZero 4 r.commitSecond ++ orZero 1 (r.provisional.map Bool.toNat) ++
    orZero 1 (r.integrity.map Integrity.code) ++ orZero 2 r.floor ++ orZero 4 (r.check.map BitVec.toNat) ++
    orZero 4 r.lastVerified ++ orZero 1 (r.sub.map SubState.code) ++ orZero 1 r.attempts ++
    orZero 1 (r.voidCause.map VoidCause.code) ++ le 1 (s.derivedBits r) ++
    (if r.retained then le 2 (s.expiry r) else [0, 0]) ++ [0, 0] ++ orZero 4 r.disposalSecond ++ orZero 8 r.dispSeq

/-! ### The trailer block (R188) -/

/-- The trailer marker, the ASCII bytes "WR412TRL". -/
def trailerMarker : List Byte := [0x57, 0x52, 0x34, 0x31, 0x32, 0x54, 0x52, 0x4C]

/-- The trailer's first 4,092 bytes (R49, R188). -/
def trailerBody (r : Extent) (check : Word32) (seconds : Nat) (clock : ClockState) : List Byte :=
  padTo 4092 (trailerMarker ++ le 4 r.number ++ le 8 r.key ++ le 2 r.group ++ le 1 r.store ++ le 1 r.cls ++
    le 1 (nodeCode r.opener) ++ le 1 clock.code ++ le 2 r.count ++ le 4 r.start ++ le 4 check.toNat ++ le 4 seconds)

/-- The trailer block, ended by its own check (R49, R188). -/
def trailer (r : Extent) (check : Word32) (seconds : Nat) (clock : ClockState) : List Byte :=
  trailerBody r check seconds clock ++ le 4 (dataCheck (trailerBody r check seconds clock)).toNat

/-! ### The journal record (R189) -/

/-- Record kind codes (R189). -/
def Subject.kind : Subject → Nat
  | .voided .. => 1
  | .disposed .. => 2
  | .disposalFailed .. => 3
  | .integrity .. => 4
  | .holdPlaced .. => 5
  | .holdLate .. => 6
  | .holdLifted .. => 7
  | .extended .. => 8
  | .classSet .. => 9
  | .policyFixed .. => 10
  | .splitDone .. => 11
  | .clockState .. => 12
  | .clockAdopted .. => 13
  | .start .. => 14

/-- The result code a damaged VERIFY ends with (R71). -/
def Damage.code : Damage → Code
  | .mismatch _ => .mismatch
  | .mediaFault _ _ => .mediaFault

/-- The recomputed value of a mismatch or the offset of the failed run (R71). -/
def Damage.value : Damage → Nat
  | .mismatch v => v.toNat
  | .mediaFault offset _ => offset

/-- The subject fields, packed in the order of the R152 table and of R163 with the sizes of R189 (log 10). -/
def Subject.bytes : Subject → List Byte
  | .voided ext key store cause block count =>
      le 4 ext ++ le 8 key ++ le 1 store ++ le 1 cause.code ++ le 4 block ++ le 4 count
  | .disposed ext key group cls commit expiry check integ attempts =>
      le 4 ext ++ le 8 key ++ le 2 group ++ le 1 cls ++ le 4 commit ++ le 2 expiry ++ le 4 check.toNat ++
        le 1 integ.code ++ le 1 attempts
  | .disposalFailed ext group cls commit attempts =>
      le 4 ext ++ le 2 group ++ le 1 cls ++ le 4 commit ++ le 1 attempts
  | .integrity ext damage check => le 4 ext ++ le 1 damage.code.num ++ le 4 damage.value ++ le 4 check.toNat
  | .holdPlaced matter scope position => le 4 matter ++ scope.bytes ++ le 1 position
  | .holdLate matter ext group day attempts => le 4 matter ++ le 4 ext ++ le 2 group ++ le 2 day ++ le 1 attempts
  | .holdLifted matter placed scope late position =>
      le 4 matter ++ le 4 placed ++ scope.bytes ++ le 1 late ++ le 1 position
  | .extended first last days raised same other absent =>
      le 4 first ++ le 4 last ++ le 2 days ++ le 4 raised ++ le 4 same ++ le 4 other ++ le 4 absent
  | .classSet cls before after => le 1 cls ++ before.recordBytes ++ after.recordBytes
  | .policyFixed entries => (entries.map ClassEntry.recordBytes).flatten
  | .splitDone old new boundaries => le 4 old ++ le 4 new ++ (boundaries.map (le 4)).flatten
  | .clockState before after changes => le 1 before.code ++ le 1 after.code ++ le 4 changes
  | .clockAdopted before after d retard mark =>
      le 4 before ++ le 4 after ++ leInt 8 d ++ le 4 retard ++ le 4 mark.reference ++ le 4 mark.receipt
  | .start cause initialized seconds state lost requeued found pages skipped =>
      le 1 cause.code ++ flag initialized ++ le 4 seconds ++ le 1 state.code ++ le 4 lost ++ le 4 requeued ++
        le 4 found ++ le 4 pages ++ le 4 skipped

/-- The protected kinds (R152). -/
def Subject.isProtected : Subject → Bool
  | .disposed .. => false
  | .extended .. => false
  | .classSet .. => false
  | .policyFixed .. => false
  | .splitDone .. => false
  | _ => true

/-- The first 124 bytes of a record (R189). -/
def recordBody (seq seconds : Nat) (origin : Origin) (subject : Subject) : List Byte :=
  le 8 seq ++ le 4 seconds ++ le 1 subject.kind ++ le 1 origin.code ++ padTo 110 subject.bytes

/-- The chained check: over the previous record's check, least significant byte first, and the record's first
124 bytes (R153). -/
def chainedCheck (last : Word32) (seq seconds : Nat) (origin : Origin) (subject : Subject) : Word32 :=
  dataCheck (le 4 last.toNat ++ recordBody seq seconds origin subject)

/-- The 128 bytes of a record (R189). -/
def Record.bytes (r : Record) : List Byte :=
  recordBody r.seq r.seconds r.origin r.subject ++ le 4 r.check.toNat

/-- The 4,096 bytes of the page that carries the oldest `n` buffered records: records in sequence order in
slots 0 onwards, the slots after the last all zero (R158). -/
def Journal.pageBytes (j : Journal) (n : Nat) : List Byte :=
  padTo Config.blockBytes (((j.buffer.take n).map (fun e => e.record.bytes)).flatten)

end Sys2Proof.Machine
end

