-- ==== Sys2Proof/Machine/Operands.lean ====
section
/-! DEFINITION. Capsules: the kinds and their codes (13.1), the operands of each kind read from and written to their
bytes, the capsule a hand-over yields (R165, R175), its shape (R166 step 2, R177), which origin and role may send
which kind (R179), the fragment checks (R170), and the receipt that answers it. -/

namespace Sys2Proof.Machine

/-! ### Kinds -/

/-- The capsule kinds (13.1). -/
inductive Kind where
  | openExtent | append | close | abandon | read | verify | query | find | status | window | time | events
  | dispose | holdPlace | holdLift | holdList | extend | classSet | classGet | policyFix | adopt | route | split
  | journalRead
  deriving DecidableEq, Repr

/-- Kind codes (13.1). -/
def Kind.code : Kind → Nat
  | .openExtent => 0x01
  | .append => 0x02
  | .close => 0x03
  | .abandon => 0x04
  | .read => 0x05
  | .verify => 0x06
  | .query => 0x07
  | .find => 0x08
  | .status => 0x09
  | .window => 0x0A
  | .time => 0x0B
  | .events => 0x0C
  | .dispose => 0x0D
  | .holdPlace => 0x0E
  | .holdLift => 0x0F
  | .holdList => 0x10
  | .extend => 0x11
  | .classSet => 0x12
  | .classGet => 0x13
  | .policyFix => 0x14
  | .adopt => 0x15
  | .route => 0x16
  | .split => 0x17
  | .journalRead => 0x18

/-- Every kind in the order of its code. -/
def Kind.all : List Kind :=
  [.openExtent, .append, .close, .abandon, .read, .verify, .query, .find, .status, .window, .time, .events,
   .dispose, .holdPlace, .holdLift, .holdList, .extend, .classSet, .classGet, .policyFix, .adopt, .route, .split,
   .journalRead]

/-- The kind with a code; none for an unknown code (R166 step 2). -/
def Kind.ofCode (n : Nat) : Option Kind := if n = 0 then none else Kind.all[n - 1]?

/-- The size of a kind's operands in bytes (13.1). -/
def Kind.operandBytes : Kind → Nat
  | .openExtent => 12
  | .append => 8
  | .close => 4
  | .abandon => 4
  | .read => 8
  | .verify => 4
  | .query => 4
  | .find => 8
  | .status => 4
  | .window => 12
  | .time => 4
  | .events => 0
  | .dispose => 8
  | .holdPlace => 20
  | .holdLift => 4
  | .holdList => 4
  | .extend => 12
  | .classSet => 8
  | .classGet => 4
  | .policyFix => 0
  | .adopt => 0
  | .route => 4
  | .split => 4
  | .journalRead => 8

/-- The kinds that carry a fragment list (R170). -/
def Kind.carriesFragments : Kind → Bool
  | .append => true
  | .read => true
  | _ => false

/-- Whether a kind is taken from an origin, on CPORT in a role, or answered ROLE (R179). -/
def Kind.takenFrom (k : Kind) (m : Master) (role : Role) : Bool :=
  match k, m, role with
  | .openExtent, .node _, _ => true
  | .append, .node _, _ => true
  | .close, .node _, _ => true
  | .read, .node _, _ => true
  | .window, .node _, _ => true
  | .time, .node _, _ => true
  | .openExtent, .cport, _ => false
  | .append, .cport, _ => false
  | .close, .cport, _ => false
  | .read, .cport, _ => false
  | .window, .cport, _ => false
  | .time, .cport, _ => false
  | .abandon, .node _, _ => true
  | .dispose, .node _, _ => true
  | .abandon, .cport, .compliance => true
  | .dispose, .cport, .compliance => true
  | .abandon, .cport, .examiner => false
  | .dispose, .cport, .examiner => false
  | .verify, _, _ => true
  | .query, _, _ => true
  | .find, _, _ => true
  | .status, _, _ => true
  | .events, _, _ => true
  | .holdList, _, _ => true
  | .classGet, _, _ => true
  | .journalRead, .node _, _ => false
  | .journalRead, .cport, _ => true
  | _, .node _, _ => false
  | _, .cport, .compliance => true
  | _, .cport, .examiner => false

/-! ### Operands -/

/-- The operands of a capsule of each kind, as its fields carry them (13.1). -/
inductive Req where
  | openExtent (store cls group key : Nat)
  | append (ext blocks : Nat)
  | close (ext : Nat)
  | abandon (ext : Nat)
  | read (ext offset blocks : Nat)
  | verify (ext : Nat)
  | query (number : Nat)
  | find (key : Nat)
  | status (sect : Nat)
  | window (base limit : Nat)
  | time (reference : Nat)
  | events
  | dispose (first last : Nat)
  | holdPlace (matter : Nat) (scope : Scope)
  | holdLift (matter : Nat)
  | holdList (index : Nat)
  | extend (first last : Nat) (forever : Bool) (days : Nat)
  | classSet (cls : Nat) (defined forever : Bool) (mode period : Nat)
  | classGet (cls : Nat)
  | policyFix
  | adopt
  | route (cls : Nat) (route : Route)
  | split (target : Nat)
  | journalRead (seq : Nat)
  deriving DecidableEq, Repr

/-- The kind of a request. -/
def Req.kind : Req → Kind
  | .openExtent .. => .openExtent
  | .append .. => .append
  | .close .. => .close
  | .abandon .. => .abandon
  | .read .. => .read
  | .verify .. => .verify
  | .query .. => .query
  | .find .. => .find
  | .status .. => .status
  | .window .. => .window
  | .time .. => .time
  | .events => .events
  | .dispose .. => .dispose
  | .holdPlace .. => .holdPlace
  | .holdLift .. => .holdLift
  | .holdList .. => .holdList
  | .extend .. => .extend
  | .classSet .. => .classSet
  | .classGet .. => .classGet
  | .policyFix => .policyFix
  | .adopt => .adopt
  | .route .. => .route
  | .split .. => .split
  | .journalRead .. => .journalRead

/-- A flag operand: yes when the byte is not 0x00 (R187). -/
def flagAt (offset : Nat) (bytes : List Byte) : Bool := field offset 1 bytes != 0

/-- The scope in the sixteen bytes after the matter: a part is kept only where its presence bit is set; presence
bits above bit 2 are ignored (13.1, R123, R187). -/
def Scope.ofBytes (bytes : List Byte) : Scope where
  group := if (field 0 1 bytes).testBit 0 then some (field 2 2 bytes) else none
  days := if (field 0 1 bytes).testBit 1 then some (field 4 2 bytes, field 6 2 bytes) else none
  extents := if (field 0 1 bytes).testBit 2 then some (field 8 4 bytes, field 12 4 bytes) else none

/-- The request that operand bytes of a kind carry (13.1); only the fields the kind names are read (R187). -/
def Req.ofBytes (k : Kind) (o : List Byte) : Req :=
  match k with
  | .openExtent => .openExtent (field 0 1 o) (field 1 1 o) (field 2 2 o) (field 4 8 o)
  | .append => .append (field 0 4 o) (field 4 1 o)
  | .close => .close (field 0 4 o)
  | .abandon => .abandon (field 0 4 o)
  | .read => .read (field 0 4 o) (field 4 2 o) (field 6 1 o)
  | .verify => .verify (field 0 4 o)
  | .query => .query (field 0 4 o)
  | .find => .find (field 0 8 o)
  | .status => .status (field 0 1 o)
  | .window => .window (field 0 6 o) (field 6 6 o)
  | .time => .time (field 0 4 o)
  | .events => .events
  | .dispose => .dispose (field 0 4 o) (field 4 4 o)
  | .holdPlace => .holdPlace (field 0 4 o) (Scope.ofBytes (o.drop 4))
  | .holdLift => .holdLift (field 0 4 o)
  | .holdList => .holdList (field 0 1 o)
  | .extend => .extend (field 0 4 o) (field 4 4 o) (flagAt 8 o) (field 10 2 o)
  | .classSet => .classSet (field 0 1 o) (flagAt 1 o) (flagAt 2 o) (field 3 1 o) (field 4 4 o)
  | .classGet => .classGet (field 0 1 o)
  | .policyFix => .policyFix
  | .adopt => .adopt
  | .route => .route (field 0 1 o) (Route.ofByte (field 1 1 o))
  | .split => .split (field 0 1 o)
  | .journalRead => .journalRead (field 0 8 o)

/-- The operand bytes of a request, pad bytes zero (13.1). -/
def Req.bytes : Req → List Byte
  | .openExtent store cls group key => le 1 store ++ le 1 cls ++ le 2 group ++ le 8 key
  | .append ext blocks => le 4 ext ++ le 1 blocks ++ [0, 0, 0]
  | .close ext => le 4 ext
  | .abandon ext => le 4 ext
  | .read ext offset blocks => le 4 ext ++ le 2 offset ++ le 1 blocks ++ [0]
  | .verify ext => le 4 ext
  | .query number => le 4 number
  | .find key => le 8 key
  | .status sect => le 1 sect ++ [0, 0, 0]
  | .window base limit => le 6 base ++ le 6 limit
  | .time reference => le 4 reference
  | .events => []
  | .dispose first last => le 4 first ++ le 4 last
  | .holdPlace matter scope => le 4 matter ++ scope.bytes
  | .holdLift matter => le 4 matter
  | .holdList index => le 1 index ++ [0, 0, 0]
  | .extend first last forever days => le 4 first ++ le 4 last ++ flag forever ++ [0] ++ le 2 days
  | .classSet cls defined forever mode period =>
      le 1 cls ++ flag defined ++ flag forever ++ le 1 mode ++ le 4 period
  | .classGet cls => le 1 cls ++ [0, 0, 0]
  | .policyFix => []
  | .adopt => []
  | .route cls rt => le 1 cls ++ le 1 rt.byte ++ [0, 0]
  | .split target => le 1 target ++ [0, 0, 0]
  | .journalRead seq => le 8 seq

/-- A value fits in a field of `size` bytes. -/
def fitsIn (size v : Nat) : Bool := decide (v < 256 ^ size)

/-- The parts of a scope that are present fit in their fields (R123). -/
def Scope.fits (c : Scope) : Bool :=
  (match c.group with | none => true | some g => fitsIn 2 g) &&
    (match c.days with | none => true | some (a, b) => fitsIn 2 a && fitsIn 2 b) &&
    (match c.extents with | none => true | some (a, b) => fitsIn 4 a && fitsIn 4 b)

/-- Every operand fits in its field. -/
def Req.fits : Req → Bool
  | .openExtent store cls group key => fitsIn 1 store && fitsIn 1 cls && fitsIn 2 group && fitsIn 8 key
  | .append ext blocks => fitsIn 4 ext && fitsIn 1 blocks
  | .close ext => fitsIn 4 ext
  | .abandon ext => fitsIn 4 ext
  | .read ext offset blocks => fitsIn 4 ext && fitsIn 2 offset && fitsIn 1 blocks
  | .verify ext => fitsIn 4 ext
  | .query number => fitsIn 4 number
  | .find key => fitsIn 8 key
  | .status sect => fitsIn 1 sect
  | .window base limit => fitsIn 6 base && fitsIn 6 limit
  | .time reference => fitsIn 4 reference
  | .events => true
  | .dispose first last => fitsIn 4 first && fitsIn 4 last
  | .holdPlace matter scope => fitsIn 4 matter && scope.fits
  | .holdLift matter => fitsIn 4 matter
  | .holdList index => fitsIn 1 index
  | .extend first last _ days => fitsIn 4 first && fitsIn 4 last && fitsIn 2 days
  | .classSet cls _ _ mode period => fitsIn 1 cls && fitsIn 1 mode && fitsIn 4 period
  | .classGet cls => fitsIn 1 cls
  | .policyFix => true
  | .adopt => true
  | .route cls _ => fitsIn 1 cls
  | .split target => fitsIn 1 target
  | .journalRead seq => fitsIn 8 seq

/-! ### Fragments -/

/-- The sixteen bytes of a fragment entry (13.1). -/
def Fragment.bytes (f : Fragment) : List Byte := le 8 f.addr ++ le 4 f.len ++ [0, 0, 0, 0]

/-- `n` fragment entries from their bytes (13.1). -/
def fragmentsOf : Nat → List Byte → List Fragment
  | 0, _ => []
  | n + 1, b => ⟨field 0 8 b, field 8 4 b⟩ :: fragmentsOf n (b.drop 16)

/-- The total length of a fragment list. -/
def fragmentTotal (l : List Fragment) : Nat := (l.map (·.len)).sum

/-- An entry whose address and length have the shape of R170, order 3. -/
def Fragment.shaped (f : Fragment) : Bool :=
  f.addr % 512 == 0 && decide (512 ≤ f.len) && decide (f.len ≤ 131072) && f.len % 512 == 0

/-- The block count operand of a capsule that carries fragments. -/
def Req.blocks : Req → Nat
  | .append _ blocks => blocks
  | .read _ _ blocks => blocks
  | _ => 0

/-- The fragment checks in the order of R170; none when they pass. -/
def fragmentRefusal (l : LinkState) (r : Req) (frags : List Fragment) : Option Code :=
  if !r.kind.carriesFragments then (if frags.isEmpty then none else some .fragmentShape)
  else if l.limit < l.base then some .windowClosed
  else if frags.isEmpty || frags.any (fun f => !f.shaped) then some .fragmentShape
  else if 1 ≤ r.blocks && r.blocks ≤ Config.maxRun && fragmentTotal frags != r.blocks * Config.blockBytes then
    some .fragmentShape
  else if frags.any (fun f => f.addr < l.base * 65536 || (l.limit + 1) * 65536 < f.addr + f.len) then
    some .fragmentRange
  else none

/-! ### Capsules -/

/-- A capsule in bytes, as a master writes it (13.1). -/
def capsuleBytes (r : Req) (tag : Byte) (frags : List Fragment) : List Byte :=
  le 2 (4 + r.bytes.length + 16 * frags.length) ++ le 1 r.kind.code ++ [tag] ++ r.bytes ++
    (frags.map Fragment.bytes).flatten

/-- A capsule handed over: who sent it, and the bytes that were handed over. -/
structure Capsule where
  master : Master
  raw : List Byte
  deriving DecidableEq, Repr

/-- The stated length. -/
def Capsule.length (c : Capsule) : Nat := field 0 2 c.raw

/-- The kind code byte. -/
def Capsule.kindByte (c : Capsule) : Byte := (c.raw[2]?).getD 0

/-- The tag byte. -/
def Capsule.tag (c : Capsule) : Byte := (c.raw[3]?).getD 0

/-- The capsule's own bytes: as many as its stated length (R169). -/
def Capsule.body (c : Capsule) : List Byte := c.raw.take c.length

/-- The kind and the number of fragment entries of a capsule whose kind is known and whose length is right: on a
node link at most 512 and the kind's size plus 0 to 16 entries, on CPORT at most 128 and exactly the kind's size
(R166 step 2, R177). -/
def Capsule.shape (c : Capsule) : Option (Kind × Nat) :=
  match Kind.ofCode c.kindByte.toNat with
  | none => none
  | some k =>
    let size := 4 + k.operandBytes
    match c.master with
    | .node _ =>
      let n := (c.length - size) / 16
      if c.length ≤ 512 && c.length == size + 16 * n && n ≤ 16 then some (k, n) else none
    | .cport => if c.length ≤ 128 && c.length == size then some (k, 0) else none

/-- The request of a capsule of a known kind. -/
def Capsule.request (c : Capsule) (k : Kind) : Req := Req.ofBytes k ((c.raw.drop 4).take k.operandBytes)

/-- The fragment entries of a capsule of a known kind. -/
def Capsule.fragments (c : Capsule) (k : Kind) (n : Nat) : List Fragment :=
  fragmentsOf n (c.raw.drop (4 + k.operandBytes))

/-- The link state of a node. -/
def State.link (s : State) : Node → LinkState
  | .a => s.linkA
  | .b => s.linkB

/-- A node link can be reached: the part is out of reset and the link is up (R173, R185). -/
def State.reachable (s : State) (n : Node) : Bool := s.live && (s.link n).up

/-- An I2C transaction reaches the part: it is out of reset and the address is its own (R175, R185). -/
def State.answers (s : State) (addr : BitVec 7) : Bool := s.live && addr == s.settings.cportAddr

/-- The bytes of an I2C write hand a capsule over: the header has arrived, and the stated length is above 128 or
no more bytes than arrived (R175). -/
def completeWrite (bytes : List Byte) : Bool :=
  decide (4 ≤ bytes.length) && (decide (128 < field 0 2 bytes) || decide (field 0 2 bytes ≤ bytes.length))

/-- The capsule a hand-over yields: the link's window when its capsule-written mark is set (R165), or the bytes
of a complete I2C write to the part's address, at most 128 of them (R175); none when nothing is handed over. -/
def State.received (s : State) (h : HandOver) : Option Capsule :=
  match h with
  | .read n => if s.reachable n && (s.link n).mark then some ⟨.node n, (s.link n).window⟩ else none
  | .write addr bytes =>
      if s.answers addr && completeWrite bytes then some ⟨.cport, bytes.take 128⟩ else none

end Sys2Proof.Machine
end

