-- ==== Sys2Proof/Machine/Ops.lean ====
section
/-! DEFINITION. The named operations that commands share: access to links, slots, records and stores; raising events
(R180, R181); finishing a slot (R168); reader counts (R63); failing and asking for a split (R31 to R34); returning
queued extents (R143, R149); entering journal records (R152, R155, R161); and placing, granting and issuing media
operations (R78 to R85). -/

namespace Sys2Proof.Machine

/-! ### Links and slots -/

/-- Replaces the state of a node link. -/
def State.withLink (s : State) (n : Node) (l : LinkState) : State :=
  match n with
  | .a => s.withLinkA l
  | .b => s.withLinkB l

/-- The slots of a link or port. -/
def State.slots (s : State) : Master → List Slot
  | .node n => (s.link n).slots
  | .cport => s.cport.slots

/-- One slot. -/
def State.slot (s : State) (ref : SlotRef) : Option Slot := (s.slots ref.master)[ref.index]?

/-- Replaces one slot. -/
def State.setSlot (s : State) (ref : SlotRef) (v : Slot) : State :=
  match ref.master with
  | .node n => s.withLink n { s.link n with slots := (s.link n).slots.set ref.index v }
  | .cport => s.withCport { s.cport with slots := s.cport.slots.set ref.index v }

/-- A FREE slot. -/
def Slot.isFree : Slot → Bool
  | .free => true
  | _ => false

/-- The lowest-numbered FREE slot of a link or port (R168). -/
def State.freeSlot (s : State) (m : Master) : Option Nat := (s.slots m).findIdx? (·.isFree)

/-- The tag a slot holds; a DETACHED slot holds none (R168). -/
def Slot.tag? : Slot → Option Byte
  | .running h _ => some h.tag
  | .finished h _ => some h.tag
  | _ => none

/-- The slot of a link or port that holds a tag (R166 step 4). -/
def State.tagSlot (s : State) (m : Master) (tag : Byte) : Option Nat :=
  (s.slots m).findIdx? (fun v => v.tag? == some tag)

/-! ### Events (R180, R181) -/

/-- The pending set of a target. -/
def State.pendingSet (s : State) : Master → List EventClass
  | .node .a => s.router.setA
  | .node .b => s.router.setB
  | .cport => s.router.setC

/-- Adds a class to a target's pending set. A class raised for a link that is down is discarded; a link whose set
was empty sends one message, if its node has enabled them (R181). -/
def State.raiseAt (s : State) (m : Master) (c : EventClass) : State :=
  if (s.pendingSet m).contains c then s
  else
    let r := s.router
    match m with
    | .node .a =>
        if s.linkA.up then
          s.withRouter { r with
            setA := r.setA ++ [c], msiA := r.msiA + (r.setA.isEmpty && s.linkA.msiEnabled).toNat }
        else s
    | .node .b =>
        if s.linkB.up then
          s.withRouter { r with
            setB := r.setB ++ [c], msiB := r.msiB + (r.setB.isEmpty && s.linkB.msiEnabled).toNat }
        else s
    | .cport => s.withRouter { r with setC := r.setC ++ [c] }

/-- The route of a class (R180). -/
def State.routeOf (s : State) (c : EventClass) : Route := (s.router.routes[c.code]?).getD ⟨false, false, false⟩

/-- Raises a class on its forced target and on each target of its route (R180). -/
def State.raise (s : State) (c : EventClass) (forced : Option Master) : State :=
  let r := s.routeOf c
  let s1 := if r.a || forced == some (.node .a) then s.raiseAt (.node .a) c else s
  let s2 := if r.b || forced == some (.node .b) then s1.raiseAt (.node .b) c else s1
  if r.cport || forced == some .cport then s2.raiseAt .cport c else s2

/-- Ends the operation of a slot: a RUNNING slot becomes FINISHED with the result and COMPLETION is raised to its
own link or port alone; a DETACHED slot becomes FREE without result or event; any other slot is left (R168). -/
def State.endSlot (s : State) (ref : SlotRef) (r : Result) : State :=
  match s.slot ref with
  | some (.running h _) => (s.setSlot ref (.finished h r)).raiseAt ref.master .completion
  | some (.detached _) => s.setSlot ref .free
  | _ => s

/-- FETCH_FAULT to the link of a RUNNING slot whose transfer failed, and to no other target (R172). -/
def State.raiseFault (s : State) (ref : SlotRef) : State :=
  match s.slot ref with
  | some (.running _ _) => s.raiseAt ref.master .fetchFault
  | _ => s

/-! ### Extent records, stores, units, readers -/

/-- A change of one record (R4). The change itself says from which state it may be made. -/
def State.modExtent (s : State) (n : Nat) (f : Extent → Extent) : State :=
  s.withEt { s.et with records := s.et.records.map (fun r => if r.number == n then f r else r) }

/-- A store record. -/
def State.store (s : State) (i : Nat) : Option Store := s.storeMap.stores[i]?

/-- A change of one store record. -/
def State.modStore (s : State) (i : Nat) (f : Store → Store) : State :=
  s.withStoreMap { s.storeMap with stores := s.storeMap.stores.modify i f }

/-- The Write Engine's unit of a store (R37, R38). -/
def State.unit (s : State) (i : Nat) : WriteUnit := (s.write[i]?).getD ⟨.empty, .idle⟩

/-- Replaces a store's staging area and timer. -/
def State.setUnit (s : State) (i : Nat) (staging : Staging) (timer : Timer) : State :=
  s.withWrite (s.write.set i ⟨staging, timer⟩)

/-- The record of a store's open extent. -/
def State.openRecord (s : State) (i : Nat) : Option Extent :=
  match s.store i with
  | some st => match st.openExtent with
    | some n => s.extent n
    | none => none
  | none => none

/-- A slot that runs the APPEND or CLOSE of an extent. -/
def Slot.writes (n : Nat) : Slot → Bool
  | .running _ (.append w) => w.ext == n
  | .running _ (.close ext) => ext == n
  | _ => false

/-- The slot that waits for the write of an extent, absent after a reset of its link (R56). -/
def State.writeSlot (s : State) (r : Extent) : Option SlotRef :=
  ((s.slots (.node r.opener)).findIdx? (·.writes r.number)).map (fun i => ⟨.node r.opener, i⟩)

/-- Ends the write slot of an extent, if it still exists (R46, R47, R50, R52, R56). -/
def State.endWrite (s : State) (r : Extent) (res : Result) : State :=
  match s.writeSlot r with
  | some ref => s.endSlot ref res
  | none => s

/-- The reader count of an extent grows by 1 (R63). -/
def State.addReader (s : State) (n : Nat) : State :=
  s.withReaders
    (if s.readers.any (fun p => p.1 == n) then s.readers.map (fun p => if p.1 == n then (n, p.2 + 1) else p)
     else s.readers ++ [(n, 1)])

/-- The reader count of an extent falls by 1, and its entry goes when it reaches 0 (R63). -/
def State.dropReader (s : State) (n : Nat) : State :=
  s.withReaders
    (if s.readerCount n ≤ 1 then s.readers.filter (fun p => p.1 != n)
     else s.readers.map (fun p => if p.1 == n then (n, p.2 - 1) else p))

/-! ### Waiting requests and splits -/

/-- A request begins to wait for a journal place (R155). -/
def State.askPlace (s : State) (r : PlaceRequest) : State :=
  s.withJournal { s.journal with waits := s.journal.waits ++ [r] }

/-- A request is given up, or has been granted (R155). -/
def State.dropWait (s : State) (r : PlaceRequest) : State :=
  s.withJournal { s.journal with waits := s.journal.waits.erase r }

/-- A SPLITTING store. -/
def Store.isSplitting (st : Store) : Bool := st.state == .splitting

/-- No SPLITTING store holds an open extent (R32). -/
def StoreMap.quiet (m : StoreMap) : Bool := m.stores.all (fun st => !(st.isSplitting && st.openExtent.isSome))

/-- A pending split fails: every SPLITTING store returns to ACTIVE, the split and its request go, and its slot
finishes with the code (R31, R33, R34). -/
def State.failSplit (s : State) (code : Code) : State :=
  match s.storeMap.split with
  | none => s
  | some p =>
    let stores := s.storeMap.stores.map (fun st => if st.isSplitting then { st with state := .active } else st)
    ((s.withStoreMap { s.storeMap with stores := stores, split := none }).dropWait .splitDone).endSlot
      ⟨.cport, p.slot⟩ ⟨code, []⟩

/-! ### The disposal queue -/

/-- How an extent leaves DISPOSING (R148). -/
inductive Exit where
  | released | returned | failed
  deriving DecidableEq, Repr

/-- Counts one exit (R148). -/
def DisposeWork.count (w : DisposeWork) : Exit → DisposeWork
  | .released => { w with released := w.released + 1 }
  | .returned => { w with returned := w.returned + 1 }
  | .failed => { w with failed := w.failed + 1 }

/-- The fields of a DISPOSE receipt and result (R140, R148, 13.2). -/
def DisposeWork.fields (w : DisposeWork) : List Byte :=
  le 4 w.first ++ le 4 w.last ++ (w.counts.map (le 2)).flatten ++ le 2 w.released ++ le 2 w.returned ++ le 2 w.failed

/-- Every queued extent has left DISPOSING (R148). -/
def DisposeWork.over (w : DisposeWork) : Bool := w.released + w.returned + w.failed == w.queued

/-- Counts an exit in the slot of the DISPOSE that queued the extent, and finishes the slot with its last one
(R148). An entry without slot reference is counted nowhere. -/
def State.countExit (s : State) (e : QueueEntry) (x : Exit) : State :=
  match e.slot with
  | none => s
  | some ref =>
    match s.slot ref with
    | some (.running h (.dispose w)) =>
      let w' := w.count x
      let s1 := s.setSlot ref (.running h (.dispose w'))
      if w'.over then s1.endSlot ref ⟨.ok, w'.fields⟩ else s1
    | _ => s

/-- An entry leaves the queue and is counted (R141, R148). -/
def State.leaveQueue (s : State) (e : QueueEntry) (x : Exit) : State :=
  (s.withEngine { s.engine with queue := s.engine.queue.filter (fun q => q.ext != e.ext) }).countExit e x

/-- DISPOSING at QUEUED or SCRUB_NEXT, from where an extent may return to COMMITTED (R6). -/
def Extent.returnable (r : Extent) : Bool := r.state == .disposing && r.sub != some .scrubbing

/-- The return to COMMITTED: sub-state and attempts go (R6). -/
def Extent.returned (r : Extent) : Extent :=
  if r.returnable then { r with state := .committed, sub := none, attempts := none } else r

/-- Returns one queued extent to COMMITTED, counted returned (R143, R149); one that R6 does not let return stays on the
queue (R4). -/
def State.returnEntry (s : State) (e : QueueEntry) : State :=
  if (s.extent e.ext).any (·.returnable) then (s.modExtent e.ext Extent.returned).leaveQueue e .returned else s

/-- The engine's stage. -/
def State.setStage (s : State) (g : Stage) : State := s.withEngine { s.engine with stage := g }

/-- The head returns to COMMITTED and the engine becomes IDLE (R143). -/
def State.returnHead (s : State) : State :=
  match s.engine.queue with
  | [] => s
  | e :: _ => (s.returnEntry e).setStage .idle

/-- A SCRUB on the wait list. -/
def MediaOp.isScrub (op : MediaOp) : Bool :=
  match op.requester with
  | .scrub _ => true
  | _ => false

/-- A JOURNAL_WRITE on the wait list. -/
def MediaOp.isPage (op : MediaOp) : Bool :=
  match op.requester with
  | .journalWrite _ => true
  | _ => false

/-- At general exhaustion every extent on the queue that is not SCRUBBING returns to COMMITTED in queue order, and a
waiting SCRUB is withdrawn; a head whose scrub has been issued goes on (R149, R83). -/
def State.returnQueue (s : State) : State :=
  match s.engine.stage with
  | .scrubbing => (s.engine.queue.drop 1).foldl State.returnEntry s
  | .recording => (s.engine.queue.drop 1).foldl State.returnEntry s
  | _ =>
    let s1 := s.withMedia { s.media with waiting := s.media.waiting.filter (fun op => !op.isScrub) }
    (s.engine.queue.foldl State.returnEntry s1).setStage .idle

/-- What the journal reports at general exhaustion: the Store Map fails a pending split, the Disposition Engine
returns its queue (R160). -/
def State.exhaust (s : State) : State := (s.failSplit .journalFull).returnQueue

/-! ### Journal records -/

/-- Enters a record: the next sequence, archive seconds now, the chained check, the end of the buffer (R152, R153,
R154). -/
def State.enter (s : State) (o : Origin) (subject : Subject) : State :=
  let j := s.journal
  let check := chainedCheck j.lastCheck j.nextSeq s.clock.seconds o subject
  s.withJournal { j with
    buffer := j.buffer ++ [⟨⟨j.nextSeq, s.clock.seconds, o, subject, check⟩, s.clock.tick⟩]
    nextSeq := j.nextSeq + 1
    lastCheck := check }

/-- Counts a record that could not be entered (R161). -/
def State.countOverflow (s : State) : State :=
  s.withJournal { s.journal with overflow := min (s.journal.overflow + 1) Config.maxOverflow }

/-- Enters a record when a buffer place is free, and counts it otherwise (R155, R161). -/
def State.record (s : State) (o : Origin) (subject : Subject) : State :=
  if s.journal.hasPlace then s.enter o subject else s.countOverflow

/-! ### Issuing media operations (R85) -/

/-- The channel becomes BUSY with an operation (R76). -/
def State.fly (s : State) (op : MediaOp) : State :=
  s.withMedia { s.media with channel := some ⟨op, s.clock.tick⟩ }

/-- After a frontier advance: a pending split whose store has fallen below 8,192 free blocks fails TOO_SMALL, and a
store with less than 2 free blocks becomes FULL and raises STORE_FULL (R28, R29, R31). -/
def State.judgeStore (s : State) (i : Nat) : State :=
  match s.store i with
  | none => s
  | some st =>
    let s1 := if st.isSplitting && decide (st.limit < st.frontier + Config.splitFloor) then s.failSplit .tooSmall
      else s
    if st.state != .full && decide (st.limit < st.frontier + 2) then
      (s1.modStore i (fun x => { x with state := .full })).raise .storeFull none
    else s1

/-- Issue of a PROGRAM: its first block is the frontier, which moves past its last block; the reservation of an
APPEND program returns to 0 (R25, R28). The frontier never exceeds the limit: the Store Map enforces it at every issue, and
a program beyond the limit, which R27 never lets a command place, is not issued (R25; log 29). -/
def State.issueProgram (s : State) (op : MediaOp) (i : Nat) (isAppend : Bool) : State :=
  match s.store i with
  | none => s
  | some st =>
    if st.limit < st.frontier + op.count then s
    else ((s.fly { op with first := st.frontier }).modStore i (fun x =>
      { x with frontier := x.frontier + op.count, reservation := if isAppend then 0 else x.reservation })).judgeStore i

/-- DISPOSING at SCRUB_NEXT becomes SCRUBBING (R7). -/
def Extent.scrubIssued (r : Extent) : Extent :=
  if r.state == .disposing && r.sub == some .scrubNext then { r with sub := some .scrubbing } else r

/-- Grant of a SCRUB with its issue-time check: issued, or the head returns to COMMITTED and the channel stays FREE
(R84, R143). -/
def State.issueScrub (s : State) (op : MediaOp) (n : Nat) : State :=
  if s.mayScrub n then ((s.fly op).modExtent n Extent.scrubIssued).setStage .scrubbing else s.returnHead

/-- Issue of a JOURNAL_WRITE: the page is filled with the oldest records, its entry becomes ISSUED, and the
thresholds are judged on the pages used (R158, R160). -/
def State.issuePage (s : State) (op : MediaOp) : State :=
  let j := s.journal
  let n := min Config.pageRecords j.buffered
  let s1 := (s.fly op).withJournal { j with pageList := j.pageList ++ [.issued j.flushed n] }
  let s2 := if s1.journal.used = j.lowMark then s1.raise .journalLow none else s1
  if s1.journal.used = j.exhaustMark then s2.exhaust else s2

/-- Issue of a granted operation (R85). -/
def State.issue (s : State) (op : MediaOp) : State :=
  match op.requester with
  | .append i => s.issueProgram op i true
  | .trailer i => s.issueProgram op i false
  | .read _ => s.fly op
  | .verify _ => s.fly op
  | .journalRead _ => s.fly op
  | .scrub n => s.issueScrub op n
  | .journalWrite _ => s.issuePage op

/-! ### Placing and granting (R78 to R84) -/

/-- The order in which a grant serves the origins (R81, R82). -/
def Media.order (m : Media) : ArbMode → List Master
  | .fixed => [.node .a, .node .b, .cport]
  | .rotating => m.turn

/-- The operation a grant chooses: a waiting JOURNAL_WRITE, else the earliest operation of the first origin in order
that has one, else a waiting SCRUB (R80). -/
def Media.choose (m : Media) (mode : ArbMode) : Option MediaOp :=
  match m.waiting.find? (·.isPage) with
  | some op => some op
  | none =>
    match (m.order mode).findSome? (fun o => m.waiting.find? (fun op => op.origin == some o)) with
    | some op => some op
    | none => m.waiting.find? (·.isScrub)

/-- The turn order after a grant: in ROTATING mode the origin granted goes to the back; a grant without origin, and
FIXED mode, leave it (R82). -/
def Media.turned (m : Media) (mode : ArbMode) (op : MediaOp) : List Master :=
  match mode, op.origin with
  | .rotating, some o => m.turn.erase o ++ [o]
  | _, _ => m.turn

/-- A grant at a FREE channel: the chosen operation leaves the wait list and is issued (R79, R80). -/
def State.grant (s : State) : State :=
  match s.media.choose s.settings.arbiter with
  | none => s
  | some op =>
    (s.withMedia { s.media with
      waiting := s.media.waiting.erase op
      turn := s.media.turned s.settings.arbiter op }).issue op

/-- An operation is placed: at a FREE channel with an empty wait list it is granted at once, otherwise it joins the
end of the wait list (R78). -/
def State.place (s : State) (op : MediaOp) : State :=
  let s1 := s.withMedia { s.media with waiting := s.media.waiting ++ [op] }
  if s.media.channel.isNone && s.media.waiting.isEmpty then s1.grant else s1

/-- The end of a completion step: the channel becomes FREE and a grant is made (R79). -/
def State.complete (s : State) : State := (s.withMedia { s.media with channel := none }).grant

/-- The operation whose answer from the array counts: the one in flight, before the 60th tick after its issue
(R75, R76). -/
def State.answering (s : State) : Option MediaOp :=
  match s.media.channel with
  | some f => if s.clock.tick < f.issued + Config.mediaTicks then some f.op else none
  | none => none

/-! ### Page writes -/

/-- The oldest buffered record has waited the partial-page time (R157). -/
def State.pageAged (s : State) : Bool :=
  match s.journal.buffer with
  | [] => false
  | e :: _ => decide (e.entered + s.settings.partialTime ≤ s.clock.tick)

/-- The three conditions of R157. A JOURNAL_WRITE is in flight exactly while an entry is ISSUED (R158). -/
def State.pageDue (s : State) : Bool :=
  !s.media.waiting.any (·.isPage) && !s.journal.pageList.any (·.isIssued) &&
    decide (s.journal.used < s.journal.pages) &&
    (decide (Config.pageRecords ≤ s.journal.buffered) || s.pageAged)

/-- Judges R157 and places the page write when it is due. -/
def State.judgePage (s : State) : State :=
  if s.pageDue then
    s.place ⟨.journalWrite s.journal.counter, none, s.journal.base + s.journal.counter, 1⟩
  else s

/-! ### Changes of clock state (R103, R156) -/

/-- The journal's account of a change that a mark or the holdover counter made: a CLOCK_STATE record; or one more
unrecorded change while the mark is set; or, with all places occupied, the mark, and in a full region the overflow
count (R103, R156, R161). R157 is judged at the record, before whatever else the step may enter (log 31). -/
def State.recordChange (s : State) (before : ClockState) : State :=
  match s.journal.mark with
  | some m => s.withJournal { s.journal with mark := some { m with count := m.count + 1 } }
  | none =>
    if s.journal.hasPlace then (s.enter .device (.clockState before s.clock.state 1)).judgePage
    else if s.journal.full then s.countOverflow
    else s.withJournal { s.journal with mark := some ⟨before, 1⟩ }

/-- A change of clock state by a mark or by the holdover counter raises CLOCK_STATE and is recorded; no change does
neither (R93, R103). -/
def State.changeClock (s : State) (c : Clock) : State :=
  if c.state = s.clock.state then s.withClock c
  else ((s.withClock c).raise .clockState none).recordChange s.clock.state

end Sys2Proof.Machine
end

