-- ==== Sys2Proof/Machine/Places.lean ====
section
/-! DEFINITION. What is done in the step in which a journal place is granted (R155): the voiding of an extent (R5, R9)
after a failed program, an open timeout or an interruption, a damaged VERIFY (R71), the release or failed disposal of
the head (R145, R146), the application of a split (R32), the coalesced clock record (R156) and the START record
(R163); then the grants of one step, in order. -/

namespace Sys2Proof.Machine

/-! ### The application of a split -/

/-- The boundary of a store at a split: its frontier plus half its free space, rounded down to 64 blocks (R32). -/
def Store.boundary (st : Store) : Nat := st.frontier + (st.limit - st.frontier) / 128 * 64

/-- The lower half of a store (R32). -/
def Store.lower (st : Store) : Store := { st with limit := st.boundary, state := .active }

/-- The new store over the upper half (R32). -/
def Store.upper (st : Store) : Store := ⟨st.boundary, st.limit, st.boundary, 0, none, .active⟩

/-- The stores after a split: old stores keep their numbers, store s + old count is the upper half of store s (R32). -/
def splitStores (stores : List Store) : List Store := stores.map Store.lower ++ stores.map Store.upper

/-- The fields of a SPLIT result (13.2). -/
def splitFields (new : Nat) (boundaries : List Nat) : List Byte :=
  le 1 new ++ [0, 0, 0] ++ (boundaries.map (le 4)).flatten

/-- The split applies: SPLIT_DONE is entered, every store is halved, the pending split goes, its slot finishes and
SPLIT_DONE is raised (R32). -/
def State.settleSplit (s : State) : State :=
  match s.storeMap.split with
  | none => s
  | some p =>
    let old := s.storeMap.stores
    let boundaries := old.map Store.boundary
    let s1 := s.record (.master .cport) (.splitDone old.length (2 * old.length) boundaries)
    let s2 := s1.withStoreMap { s1.storeMap with stores := splitStores old, split := none }
    (s2.endSlot ⟨.cport, p.slot⟩ ⟨.ok, splitFields (2 * old.length) boundaries⟩).raise .splitDone none

/-- A pending split asks for the place of its SPLIT_DONE record once its stores are quiet, and once only: it applies in this
step where the place is granted, and waits otherwise (R32, R155). -/
def State.askSplit (s : State) : State :=
  if s.storeMap.split.isSome && s.storeMap.quiet && !s.journal.waits.contains .splitDone then
    if s.journal.grants then s.settleSplit else s.askPlace .splitDone
  else s

/-- R157 is judged in a step that has entered a record since `s`. -/
def State.judgeSince (t s : State) : State := if t.journal.nextSeq = s.journal.nextSeq then t else t.judgePage

/-! ### Voiding -/

/-- The subject of a VOIDED record (R152). -/
def Extent.voidSubject (r : Extent) (cause : VoidCause) : Subject :=
  .voided r.number r.key r.store cause r.start r.count

/-- The transition to VOIDED: the writing parts go and the cause appears, with the sequence of its record if it has
one (R5, R8). -/
def Extent.void (cause : VoidCause) (seq : Option Nat) (r : Extent) : Extent :=
  if r.writing then
    { r with
      state := .voided, lastActivity := none, inFlight := none, running := none, voidCause := some cause
      dispSeq := seq }
  else r

/-- The store's open extent is cleared, and a pending split may find its stores quiet (R9, R32). -/
def State.clearStore (s : State) (i : Nat) : State := (s.modStore i (fun st => { st with openExtent := none })).askSplit

/-- An extent becomes VOIDED, with the accompanying effects: its record is entered or counted, its key leaves the Key
Index, its store's open extent is cleared, the staging area is EMPTY and the timer IDLE, and an open timeout that
waits is given up (R8, R9, R14, R37, R38, R155). Only an extent being written can become VOIDED (R4, R5). -/
def State.voidExtent (s : State) (r : Extent) (o : Origin) (cause : VoidCause) : State :=
  if r.writing then
    let seq := s.journal.nextPlace
    let s1 := (s.record o (r.voidSubject cause)).modExtent r.number (Extent.void cause seq)
    let s2 := s1.withEt { s1.et with keys := s1.et.keys.filter (fun p => p.2 != r.number) }
    ((s2.setUnit r.store .empty .idle).dropWait (.openTimeout r.store)).clearStore r.store
  else s

/-! ### The effects of granted places -/

/-- The state a voided extent's result carries (R59). -/
def voidedCode : List Byte := le 1 ExtState.voided.code

/-- After a failed program: the extent becomes VOIDED (MEDIA_FAULT) and its slot finishes MEDIA_FAULT, with the count
reached for an APPEND (R47, R52, R59, 13.2). -/
def State.settleMediaFault (s : State) (i : Nat) : State :=
  match s.openRecord i with
  | none => s
  | some r =>
    let fields := if r.state == .opened then le 2 r.count ++ voidedCode else voidedCode
    (s.voidExtent r .device .mediaFault).endWrite r ⟨.mediaFault, fields⟩

/-- The open timeout takes effect: VOIDED (TIMEOUT), and OPEN_TIMEOUT to the opener's link and on its route (R54). -/
def State.settleOpenTimeout (s : State) (i : Nat) : State :=
  match s.openRecord i with
  | none => s
  | some r => (s.voidExtent r .device .timeout).raise .openTimeout (some (.node r.opener))

/-- An interrupted extent becomes VOIDED (INTERRUPTED) at recovery (R10). -/
def State.settleRecovery (s : State) (n : Nat) : State :=
  match s.extent n with
  | none => s
  | some r =>
    let s1 := s.voidExtent r .device .interrupted
    s1.withStartup { s1.startup with voided := s1.startup.voided + 1 }

/-- The field change of a VERIFY's end, in the retained states (R3). -/
def Extent.verified (integ : Integrity) (second : Nat) (r : Extent) : Extent :=
  if r.retained then { r with integrity := some integ, lastVerified := some second } else r

/-- The fields of a VERIFY result: recomputed value, check value, blocks verified, last verified second or failed
offset, failed run count (13.2; log 9). -/
def verifyFields (recomputed check verified second failed : Nat) : List Byte :=
  le 4 recomputed ++ le 4 check ++ le 2 verified ++ le 4 second ++ le 1 failed

/-- The result of a damaged VERIFY (R71). -/
def VerifyWork.damageResult (w : VerifyWork) (d : Damage) (check now : Nat) : Result :=
  match d with
  | .mismatch v => ⟨.mismatch, verifyFields v.toNat check w.verified now 0⟩
  | .mediaFault offset blocks => ⟨.mediaFault, verifyFields 0 check w.verified offset blocks⟩

/-- The VERIFY a slot runs, whether or not its link was reset meanwhile. -/
def State.verifyAt (s : State) (ref : SlotRef) : Option VerifyWork :=
  match s.slot ref with
  | some (.running _ (.verify w)) => some w
  | some (.detached (.verify w)) => some w
  | _ => none

/-- A damaged VERIFY ends: INTEGRITY is recorded, integrity becomes DAMAGED, the reader count falls, the slot
finishes, and INTEGRITY is raised (R71). -/
def State.settleIntegrity (s : State) (ref : SlotRef) : State :=
  match s.verifyAt ref with
  | none => s
  | some w =>
    match w.damage, s.extent w.ext with
    | some d, some r =>
      let check := r.check.getD 0
      let s1 := s.record (.master ref.master) (.integrity w.ext d check)
      let s2 := (s1.modExtent w.ext (Extent.verified .damaged s.clock.seconds)).dropReader w.ext
      (s2.endSlot ref (w.damageResult d check.toNat s.clock.seconds)).raise .integrity (some .cport)
    | _, _ => s

/-- The transition to RELEASED (R6, R8). -/
def Extent.release (second : Nat) (seq : Option Nat) (r : Extent) : Extent :=
  if r.isScrubbing then
    { r with
      state := .released, sub := none, attempts := none, disposalSecond := some second, dispSeq := seq }
  else r

/-- The head becomes RELEASED, from SCRUBBING, with its DISPOSED record (R6, R145). -/
def State.settleDisposed (s : State) : State :=
  match s.engine.queue with
  | [] => s
  | e :: _ =>
    match s.extent e.ext with
    | none => s
    | some r =>
      if r.isScrubbing then
        let seq := s.journal.nextPlace
        let s1 := s.record e.origin (.disposed r.number r.key r.group r.cls (r.commitSecond.getD 0) (s.expiry r)
          (r.check.getD 0) (r.integrity.getD .unverified) (r.attempts.getD 0 + 1))
        ((s1.modExtent e.ext (Extent.release s.clock.seconds seq)).leaveQueue e .released).setStage .idle
      else s

/-- The transition to DISPOSAL_FAILED: attempts 3 are kept (R6). -/
def Extent.failDisposal (r : Extent) : Extent :=
  if r.isScrubbing then { r with state := .disposalFailed, sub := none, attempts := some 3 } else r

/-- The head becomes DISPOSAL_FAILED, from SCRUBBING, with its record, and the event is raised (R6, R146). -/
def State.settleDisposalFailed (s : State) : State :=
  match s.engine.queue with
  | [] => s
  | e :: _ =>
    match s.extent e.ext with
    | none => s
    | some r =>
      if r.isScrubbing then
        let s1 := s.record e.origin (.disposalFailed r.number r.group r.cls (r.commitSecond.getD 0) 3)
        (((s1.modExtent e.ext Extent.failDisposal).leaveQueue e .failed).raise .disposalFailed (some .cport)).setStage
          .idle
      else s

/-- The START record, which ends start-up (R163, R185). -/
def State.settleStart (s : State) : State :=
  match s.phase with
  | .startup =>
    let u := s.startup
    (s.record .device (.start u.cause u.initialized s.clock.seconds s.clock.state u.voided u.requeued u.found
      u.pagesFound s.settings.skipped)).withPhase .running
  | _ => s

/-- The effect of a granted request (R155). -/
def State.settle (s : State) (r : PlaceRequest) : State :=
  match r with
  | .recovery n => s.settleRecovery n
  | .start => s.settleStart
  | .mediaFault i => s.settleMediaFault i
  | .openTimeout i => s.settleOpenTimeout i
  | .integrity ref => s.settleIntegrity ref
  | .disposed => s.settleDisposed
  | .disposalFailed => s.settleDisposalFailed
  | .splitDone => s.settleSplit

/-- A request for a journal place: granted in the step of the request while nothing waits before it and a place is free, with
its effect made and R157 judged; in an entirely full region it is entered or counted at once; otherwise it waits (R155,
R157, R161). R157 is judged here, before whatever else the step may enter: DESIGN CHOICE (log 31), unsafe. -/
def State.request (s : State) (r : PlaceRequest) : State :=
  if s.journal.grants then (s.settle r).judgePage else s.askPlace r

/-- The first waiting request is granted when a place is free, and its effect is made in the step; page writes are judged
again. A request that is not the first, or has no place yet, changes nothing (R155, R157; log 2, log 3). -/
def State.grantPlace (s : State) (r : PlaceRequest) : State :=
  if s.journal.grantable r then ((s.dropWait r).settle r).judgePage else s

/-! ### Grants of a step that frees places -/

/-- The coalesced CLOCK_STATE record: entered when a place is free, counted once in a full region; the mark is then
cleared (R156, R161). -/
def State.grantMark (s : State) : State :=
  match s.journal.mark with
  | none => s
  | some m =>
    if s.journal.takesNow then
      let s1 := s.record .device (.clockState m.before s.clock.state m.count)
      s1.withJournal { s1.journal with mark := none }
    else s

/-- Grants to at most `n` waiting requests, the one that began to wait first before all others, while places remain; in a
full region the rest are counted and go on (R155, R161). A request that a grant itself brings about takes its place at the
end. -/
def State.grantWaits : Nat → State → State
  | 0, s => s
  | n + 1, s =>
    match s.journal.waits with
    | [] => s
    | r :: _ => if s.journal.takesNow then State.grantWaits n ((s.dropWait r).settle r) else s

/-- The grants of the step: the coalesced clock record, then the waiting requests in the order in which they began to
wait. A grant can bring about no request but the one of a pending split (R155, R32). During start-up the recoveries and START
wait from its beginning, places free or not, and are granted here with the others: DESIGN CHOICE (log 30), unsafe. -/
def State.grantPlaces (s : State) : State := State.grantWaits (s.journal.waits.length + 1) s.grantMark

end Sys2Proof.Machine
end

