-- ==== Sys2Proof/Machine/Capsules.lean ====
section
/-! DEFINITION. Judging a capsule: the steps of R166 and R177 around the owner's own checks, the slot rules of R169,
the fragment checks of R170, and the receipt (R165, R176, 13.2). -/

namespace Sys2Proof.Machine

/-- What an owner is told besides the operands: who sent the capsule, the role on CPORT, the lowest FREE slot of its
link or port, and its fragment entries. -/
structure Ctx where
  master : Master
  role : Role
  slot : Option Nat
  fragments : List Fragment
  deriving DecidableEq, Repr

/-- What an owner answers: a refusal with nothing changed; DONE with the state after; or TAKEN into a slot with the
work it will hold and the state after the acceptance (R166 steps 6 to 8). -/
inductive Verdict where
  | refuse (code : Code) (fields : List Byte)
  | done (code : Code) (fields : List Byte) (after : State)
  | take (slot : Nat) (work : Work) (fields : List Byte) (after : State)

/-- The origin of records and queue entries a capsule causes. -/
def Ctx.origin (c : Ctx) : Origin := .master c.master

/-- A receipt for a capsule; a CPORT receipt carries the role (R176, 13.2; log 8). -/
def Capsule.reply (c : Capsule) (role : Role) (d : Disposition) (code : Code) (slot : Option Nat)
    (fields : List Byte) : Receipt where
  kind := c.kindByte
  tag := c.tag
  disposition := d
  code := code
  slot := slot
  role := match c.master with
    | .cport => some role
    | .node _ => none
  fields := fields

/-- A receipt is formed: it replaces the one in the link's receipt area, or becomes CPORT's last receipt, UNREAD
(R165, R176). -/
def State.respond (s : State) (m : Master) (r : Receipt) : State :=
  match m with
  | .node n => s.withLink n { s.link n with receipt := some r }
  | .cport => s.withCport { s.cport with last := some ⟨r, false⟩ }

/-- A hand-over read clears the capsule-written mark; the window keeps its bytes (R165). -/
def State.takeMark (s : State) (m : Master) : State :=
  match m with
  | .node n => s.withLink n { s.link n with mark := false }
  | .cport => s

/-- A slot whose result is collected becomes FREE, and the page buffer that a CPORT slot held goes with it (R169, R177). -/
def State.freeCollected (s : State) (ref : SlotRef) : State :=
  match ref.master with
  | .node _ => s.setSlot ref .free
  | .cport => s.withCport { s.cport with
      slots := s.cport.slots.set ref.index .free, pageBuffers := s.cport.pageBuffers.set ref.index [] }

/-- A capsule whose tag a slot holds: PENDING while RUNNING and identical, the stored result and a FREE slot once
FINISHED and identical, TAG_CONFLICT otherwise (R169). -/
def State.heldTag (s : State) (c : Capsule) (i : Nat) : State :=
  let ref : SlotRef := ⟨c.master, i⟩
  let role := s.cport.role
  match s.slot ref with
  | some (.running h _) =>
      if h.capsule == c.body then s.respond c.master (c.reply role .pending .ok (some i) [])
      else s.respond c.master (c.reply role .refused .tagConflict none [])
  | some (.finished h r) =>
      if h.capsule == c.body then (s.freeCollected ref).respond c.master (c.reply role .done r.code none r.fields)
      else s.respond c.master (c.reply role .refused .tagConflict none [])
  | _ => s

/-- The fragment checks of step 5, which CPORT passes over (R166, R177). -/
def State.fragmentCheck (s : State) (m : Master) (r : Req) (frags : List Fragment) : Option Code :=
  match m with
  | .node n => fragmentRefusal (s.link n) r frags
  | .cport => none

/-- The receipt of the owner's verdict, and the slot of a capsule that is taken (R166 steps 6 to 8). -/
def State.conclude (s : State) (c : Capsule) (v : Verdict) : State :=
  let role := s.cport.role
  match v with
  | .refuse code fields => s.respond c.master (c.reply role .refused code none fields)
  | .done code fields t => t.respond c.master (c.reply role .done code none fields)
  | .take i w fields t =>
      (t.setSlot ⟨c.master, i⟩ (.running ⟨c.tag, c.body⟩ w)).respond c.master
        (c.reply role .taken .ok (some i) fields)

/-- What an owner is told about a capsule. -/
def State.ctx (s : State) (c : Capsule) (k : Kind) (n : Nat) : Ctx where
  master := c.master
  role := s.cport.role
  slot := s.freeSlot c.master
  fragments := c.fragments k n

/-- The steps of R166 for a capsule of a known kind and right length: STARTING, ROLE, the tag, the fragments, then
the owner (R166, R177, R179). -/
def State.judge (s : State) (c : Capsule) (k : Kind) (n : Nat) (owner : Ctx → Req → State → Verdict) : State :=
  let role := s.cport.role
  if !s.taking then s.respond c.master (c.reply role .refused .starting none [])
  else if !k.takenFrom c.master role then s.respond c.master (c.reply role .refused .role none [])
  else
    match s.tagSlot c.master c.tag with
    | some i => s.heldTag c i
    | none =>
      match s.fragmentCheck c.master (c.request k) (c.fragments k n) with
      | some code => s.respond c.master (c.reply role .refused code none [])
      | none => s.conclude c (owner (s.ctx c k n) (c.request k) s)

/-- The step of a capsule row: the capsule handed over is of the row's kind and is judged. A hand-over that yields no
capsule, or one of another kind or of a wrong length, is another row's step and changes nothing here (log 3). -/
def State.handOver (s : State) (h : HandOver) (k : Kind) (owner : Ctx → Req → State → Verdict) : State :=
  match s.received h with
  | none => s
  | some c =>
    match c.shape with
    | none => s
    | some (k', n) => if k' = k then (s.takeMark c.master).judge c k n owner else s

/-- The step of BAD_KIND: a capsule of unknown kind or wrong length is refused STARTING during start-up and BAD_KIND
after it (R166 steps 1 and 2, R175). -/
def State.refuseKind (s : State) (h : HandOver) : State :=
  match s.received h with
  | none => s
  | some c =>
    match c.shape with
    | some _ => s
    | none =>
      (s.takeMark c.master).respond c.master
        (c.reply s.cport.role .refused (if s.taking then .badKind else .starting) none [])

/-- The receipt of a read that finds no capsule or no unread receipt (R165, R176; log 8). -/
def noCapsuleReceipt (role : Option Role) : Receipt := ⟨0, 0, .refused, .noCapsule, none, role, []⟩

/-- The bytes an I2C read of `len` bytes returns: the receipt's, then 0x00 (R176). -/
def readBytes (r : Receipt) (len : Nat) : List Byte := padTo len (r.bytes.take len)

/-! ### Checks several owners share -/

/-- The record a command names: NOT_FOUND for 0 or a number not yet assigned, EVICTED for an assigned number without
record (R42, R53, R65, R68). -/
def State.named (s : State) (n : Nat) : Except Code Extent :=
  if n = 0 || s.et.next ≤ n then .error .notFound
  else
    match s.extent n with
    | none => .error .evicted
    | some r => .ok r

/-- A node that is not the extent's opener (R42, R53). -/
def notOpener (m : Master) (r : Extent) : Bool :=
  match m with
  | .node n => n != r.opener
  | .cport => false

/-- Checks 2 to 7 of R42, which CLOSE and ABANDON share (R48, R53). -/
def State.writable (s : State) (m : Master) (n : Nat) : Except Code Extent :=
  match s.named n with
  | .error code => .error code
  | .ok r =>
    if notOpener m r then .error .notOpener
    else if r.state = .voided then .error .extentVoid
    else if r.state ≠ .opened then .error .notOpen
    else if r.inFlight ≠ some .nothing then .error .extentBusy
    else .ok r

/-- Checks of READ and VERIFY on the record: NOT_COMMITTED while it is being written, GONE when it is not readable
(R65, R68). -/
def State.readableRecord (s : State) (n : Nat) : Except Code Extent :=
  match s.named n with
  | .error code => .error code
  | .ok r =>
    if r.writing then .error .notCommitted
    else if r.readable then .ok r
    else .error .gone

end Sys2Proof.Machine
end

