-- ==== Sys2Proof/Machine/Holds.lean ====
section
/-! DEFINITION. Legal holds (Chapter 8): HOLD_PLACE with the late detection (R126 to R128), HOLD_LIFT (R131) and
HOLD_LIST (R133). -/

namespace Sys2Proof.Machine

/-- First not above last, for a range that is present. -/
def orderedRange : Option (Nat × Nat) → Bool
  | none => true
  | some (first, last) => decide (first ≤ last)

/-- Every present part of the scope is accepted (R123). -/
def Scope.accepted (c : Scope) : Bool :=
  (match c.group with
   | none => true
   | some g => decide (g ≤ 4095)) &&
    orderedRange c.days && orderedRange c.extents

/-- The hold of a matter and its position in the list. -/
def HoldList.find (l : HoldList) (matter : Nat) : Option (Nat × Hold) :=
  (l.list.findIdx? (fun h => h.matter == matter)).bind (fun i => (l.list[i]?).map (fun h => (i, h)))

/-- The list revision after a placement or a lift (R121). -/
def nextRevision (revision : Nat) : Nat := (revision + 1) % 4294967296

/-- The fields of the hold receipts: position, active holds, list revision, the hold, the late extent (13.2; log 9). -/
def holdFields (position active revision : Nat) (h : Hold) (lateExtent : Nat) : List Byte :=
  le 1 position ++ le 1 active ++ le 4 revision ++ le 4 h.matter ++ le 4 h.placed ++ h.scope.bytes ++ le 1 h.late ++
    le 4 lateExtent

/-! ### HOLD_PLACE -/

/-- The extent at SCRUBBING that a scope covers (R128). -/
def State.lateExtent (s : State) (scope : Scope) : Option Extent :=
  match s.et.records.find? (·.isScrubbing) with
  | some r => if scope.covers r then some r else none
  | none => none

/-- The hold a placement adds (R127, R128). -/
def State.newHold (s : State) (matter : Nat) (scope : Scope) : Hold where
  matter := matter
  placed := s.clock.seconds
  scope := scope
  late := if (s.lateExtent scope).isSome then 1 else 0

/-- The hold joins the end of the list (R121, R127). -/
def State.addHold (s : State) (h : Hold) : State :=
  s.withHolds ⟨s.holds.list ++ [h], nextRevision s.holds.revision⟩

/-- HOLD_LATE is recorded and raised for a late extent (R128). -/
def State.noteLate (s : State) (o : Origin) (matter : Nat) (late : Option Extent) : State :=
  match late with
  | none => s
  | some r =>
    (s.record o (.holdLate matter r.number r.group r.commitDay (r.attempts.getD 0))).raise .holdLate (some .cport)

/-- A HOLD_PLACE is taken (R127, R128). -/
def State.placeHold (s : State) (o : Origin) (matter : Nat) (scope : Scope) : State :=
  let s1 := (s.addHold (s.newHold matter scope)).record o (.holdPlaced matter scope s.holds.list.length)
  (s1.noteLate o matter (s.lateExtent scope)).judgePage

/-- The checks of HOLD_PLACE in the order of R126. -/
def judgeHoldPlace (c : Ctx) (q : Req) (s : State) : Verdict :=
  match q with
  | .holdPlace matter scope =>
    if matter = 0 then .refuse .badMatter []
    else if !scope.accepted then .refuse .badScope []
    else
      match s.holds.find matter with
      | some (i, h) => .refuse .matterActive (holdFields i s.holds.list.length s.holds.revision h 0)
      | none =>
        if Config.maxHolds ≤ s.holds.list.length then .refuse .holdListFull []
        else if s.journal.backlog then .refuse .journalBacklog []
        else if s.journal.full then .refuse .journalFull []
        else
          .done .ok
            (holdFields s.holds.list.length (s.holds.list.length + 1) (nextRevision s.holds.revision)
              (s.newHold matter scope) (((s.lateExtent scope).map (·.number)).getD 0))
            (s.placeHold c.origin matter scope)
  | _ => .refuse .badKind []

/-! ### HOLD_LIFT -/

/-- A HOLD_LIFT is taken (R131). -/
def State.liftHold (s : State) (o : Origin) (position : Nat) (h : Hold) : State :=
  let s1 := s.withHolds ⟨s.holds.list.eraseIdx position, nextRevision s.holds.revision⟩
  (s1.record o (.holdLifted h.matter h.placed h.scope h.late position)).judgePage

/-- The checks of HOLD_LIFT in the order of R131. -/
def judgeHoldLift (c : Ctx) (q : Req) (s : State) : Verdict :=
  match q with
  | .holdLift matter =>
    if matter = 0 then .refuse .badMatter []
    else
      match s.holds.find matter with
      | none => .refuse .noMatter []
      | some (i, h) =>
        if s.journal.backlog then .refuse .journalBacklog []
        else if s.journal.full then .refuse .journalFull []
        else
          .done .ok (holdFields i (s.holds.list.length - 1) (nextRevision s.holds.revision) h 0)
            (s.liftHold c.origin i h)
  | _ => .refuse .badKind []

/-! ### HOLD_LIST -/

/-- HOLD_LIST (R133). -/
def judgeHoldList (_c : Ctx) (q : Req) (s : State) : Verdict :=
  match q with
  | .holdList index =>
    match s.holds.list[index]? with
    | some h => .done .ok (holdFields index s.holds.list.length s.holds.revision h 0) s
    | none =>
      .done .notFound (holdFields 0 s.holds.list.length s.holds.revision ⟨0, 0, ⟨none, none, none⟩, 0⟩ 0) s
  | _ => .refuse .badKind []

/-! ### The steps -/

/-- HOLD_PLACE (R126). -/
def execHoldPlace (h : HandOver) (s : State) : Host.Outcome State Fault Refusal :=
  .next (s.handOver h .holdPlace judgeHoldPlace)

/-- HOLD_LIFT (R131). -/
def execHoldLift (h : HandOver) (s : State) : Host.Outcome State Fault Refusal :=
  .next (s.handOver h .holdLift judgeHoldLift)

/-- HOLD_LIST (R133). -/
def execHoldList (h : HandOver) (s : State) : Host.Outcome State Fault Refusal :=
  .next (s.handOver h .holdList judgeHoldList)

end Sys2Proof.Machine
end

