-- ==== Sys2Proof/Machine/Reading.lean ====
section
/-! DEFINITION. Reading and verification (Chapter 4): READ with its fetch and its transfer to node memory (R65 to R67,
R72), and VERIFY with its runs and its two endings (R68 to R71). -/

namespace Sys2Proof.Machine

/-! ### READ -/

/-- The FETCH of a READ (R65). -/
def readOp (ref : SlotRef) (first count : Nat) : MediaOp where
  requester := .read ref
  origin := some ref.master
  first := first
  count := count

/-- The checks of READ in the order of R65. -/
def judgeRead (c : Ctx) (q : Req) (s : State) : Verdict :=
  match q with
  | .read ext offset blocks =>
    if blocks = 0 || Config.maxRun < blocks then .refuse .badRange []
    else
      match s.readableRecord ext with
      | .error code => .refuse code []
      | .ok r =>
        if r.count < offset + blocks then .refuse .badRange []
        else
          match c.slot with
          | none => .refuse .slotsFull []
          | some i =>
            .take i (.read ⟨ext, offset, blocks, c.fragments, [], none⟩) []
              ((s.addReader ext).place (readOp ⟨c.master, i⟩ (r.start + offset) blocks))
  | _ => .refuse .badKind []

/-- The READ a slot runs, whether or not its link was reset meanwhile. -/
def State.readAt (s : State) (ref : SlotRef) : Option ReadWork :=
  match s.slot ref with
  | some (.running _ (.read w)) => some w
  | some (.detached (.read w)) => some w
  | _ => none

/-- The writes a transfer makes to node memory: the fetched bytes in order, along the fragments in order (R66). -/
def dmaCells : List Fragment → List Byte → List Host.Cell
  | [], _ => []
  | f :: fs, data =>
    ((data.take f.len).mapIdx (fun i b => ⟨f.addr + i, b⟩)) ++ dmaCells fs (data.drop f.len)

/-- What a transfer has written to node memory, in order (log 11). -/
def State.latchDma (s : State) (n : Node) (cells : List Host.Cell) : State :=
  s.withLink n { s.link n with dmaOut := cells }

/-- Read and Verify's reaction to a READ's FETCH with OK: the buffer is filled and its transfer begins; with the link
reset meanwhile the READ ends (R66, R72). -/
def State.readFetched (s : State) (ref : SlotRef) (data : List Byte) : State :=
  match s.slot ref with
  | some (.running h (.read w)) =>
      s.setSlot ref (.running h (.read { w with buffer := data, dma := some s.clock.tick }))
  | some (.detached (.read w)) => (s.dropReader w.ext).setSlot ref .free
  | _ => s

/-- Read and Verify's reaction to a READ's FETCH with MEDIA_ERROR (R67, R72). -/
def State.readFault (s : State) (ref : SlotRef) : State :=
  match s.readAt ref with
  | none => s
  | some w => (s.dropReader w.ext).endSlot ref ⟨.mediaFault, le 2 w.offset ++ le 1 w.blocks⟩

/-- A READ's transfer fails with `placed` bytes written (R66). -/
def State.readDmaFault (s : State) (n : Node) (slot : Nat) (w : ReadWork) (placed : Nat) : State :=
  let s1 := s.latchDma n ((dmaCells w.fragments w.buffer).take placed)
  ((s1.dropReader w.ext).raiseFault ⟨.node n, slot⟩).endSlot ⟨.node n, slot⟩ ⟨.nodeMemoryFault, []⟩

/-! ### VERIFY -/

/-- The block count of the run of a VERIFY that begins at an offset (R69). -/
def runLength (count offset : Nat) : Nat := min Config.maxRun (count - offset)

/-- The FETCH of a run of a VERIFY (R69). -/
def verifyOp (ref : SlotRef) (r : Extent) (offset : Nat) : MediaOp where
  requester := .verify ref
  origin := some ref.master
  first := r.start + offset
  count := runLength r.count offset

/-- The checks of VERIFY in the order of R68. -/
def judgeVerify (c : Ctx) (q : Req) (s : State) : Verdict :=
  match q with
  | .verify ext =>
    match s.readableRecord ext with
    | .error code => .refuse code []
    | .ok r =>
      match c.slot with
      | none => .refuse .slotsFull []
      | some i =>
        .take i (.verify ⟨ext, crcInitial, 0, 0, none⟩) [] ((s.addReader ext).place (verifyOp ⟨c.master, i⟩ r 0))
  | _ => .refuse .badKind []

/-- Replaces the work of a VERIFY's slot. -/
def State.setVerify (s : State) (ref : SlotRef) (w : VerifyWork) : State :=
  match s.slot ref with
  | some (.running h _) => s.setSlot ref (.running h (.verify w))
  | some (.detached _) => s.setSlot ref (.detached (.verify w))
  | _ => s

/-- A VERIFY has found damage and requests the place of its INTEGRITY record (R71, R155). -/
def State.damaged (s : State) (ref : SlotRef) (w : VerifyWork) (d : Damage) : State :=
  (s.setVerify ref { w with damage := some d }).request (.integrity ref)

/-- A VERIFY ends with a match (R70). -/
def State.verifyMatch (s : State) (ref : SlotRef) (w : VerifyWork) (check : Word32) : State :=
  ((s.modExtent w.ext (Extent.verified .good s.clock.seconds)).dropReader w.ext).endSlot ref
    ⟨.ok, verifyFields check.toNat check.toNat w.verified s.clock.seconds 0⟩

/-- Read and Verify's reaction to a run with OK: its blocks enter the register, and the next run is placed or the values
are compared (R69 to R71). -/
def State.verifyFetched (s : State) (ref : SlotRef) (blocks : Nat) (data : List Byte) : State :=
  match s.verifyAt ref with
  | none => s
  | some w =>
    match s.extent w.ext with
    | none => s
    | some r =>
      let w' := { w with
        register := crcAbsorb w.register data, offset := w.offset + blocks, verified := w.verified + blocks }
      if w'.offset < r.count then (s.setVerify ref w').place (verifyOp ref r w'.offset)
      else
        let value := crcFinal w'.register
        if value = r.check.getD 0 then s.verifyMatch ref w' value else s.damaged ref w' (.mismatch value)

/-- Read and Verify's reaction to a run with MEDIA_ERROR (R71). -/
def State.verifyFault (s : State) (ref : SlotRef) (blocks : Nat) : State :=
  match s.verifyAt ref with
  | none => s
  | some w => s.damaged ref w (.mediaFault w.offset blocks)

/-! ### The steps -/

/-- READ (R65). -/
def execRead (h : HandOver) (s : State) : Host.Outcome State Fault Refusal :=
  .next (s.handOver h .read judgeRead)

/-- VERIFY (R68). -/
def execVerify (h : HandOver) (s : State) : Host.Outcome State Fault Refusal :=
  .next (s.handOver h .verify judgeVerify)

/-- A READ's FETCH completes with OK and delivers every named block whole (R66, R75). -/
def execReadFetchOk (data : List Byte) (s : State) : Host.Outcome State Fault Refusal :=
  match s.answering with
  | some ⟨.read ref, _, _, blocks⟩ =>
      if data.length = blocks * Config.blockBytes then .next (s.readFetched ref data).complete else .next s
  | _ => .next s

/-- A READ's FETCH completes with MEDIA_ERROR (R67). -/
def execReadFetchMediaError (s : State) : Host.Outcome State Fault Refusal :=
  match s.answering with
  | some ⟨.read ref, _, _, _⟩ => .next (s.readFault ref).complete
  | _ => .next s

/-- A READ's transfer writes its last byte (R66). -/
def execReadDmaComplete (n : Node) (slot : Nat) (s : State) : Host.Outcome State Fault Refusal :=
  match s.slot ⟨.node n, slot⟩ with
  | some (.running _ (.read w)) =>
      if w.dma.isSome then
        .next (((s.latchDma n (dmaCells w.fragments w.buffer)).dropReader w.ext).endSlot ⟨.node n, slot⟩
          ⟨.ok, le 1 w.blocks⟩)
      else .next s
  | _ => .next s

/-- A READ's transfer fails (R66). -/
def execReadDmaFailed (n : Node) (slot placed : Nat) (s : State) : Host.Outcome State Fault Refusal :=
  match s.slot ⟨.node n, slot⟩ with
  | some (.running _ (.read w)) =>
      if w.dma.isSome then .next (s.readDmaFault n slot w placed) else .next s
  | _ => .next s

/-- A run of a VERIFY completes with OK and delivers every named block whole (R69, R75). -/
def execVerifyFetchOk (data : List Byte) (s : State) : Host.Outcome State Fault Refusal :=
  match s.answering with
  | some ⟨.verify ref, _, _, blocks⟩ =>
      if data.length = blocks * Config.blockBytes then .next (s.verifyFetched ref blocks data).complete else .next s
  | _ => .next s

/-- A run of a VERIFY completes with MEDIA_ERROR (R71). -/
def execVerifyFetchMediaError (s : State) : Host.Outcome State Fault Refusal :=
  match s.answering with
  | some ⟨.verify ref, _, _, blocks⟩ => .next (s.verifyFault ref blocks).complete
  | _ => .next s

/-- A damaged VERIFY that waits is granted its place (R71). -/
def execIntegrityRecord (slot : SlotRef) (s : State) : Host.Outcome State Fault Refusal :=
  .next (s.grantPlace (.integrity slot))

end Sys2Proof.Machine
end

