-- ==== Sys2Proof/Machine/Writing.lean ====
section
/-! DEFINITION. Writing an extent (Chapter 3): OPEN with its capacity and eviction rules (R15 to R17, R39 to R41),
APPEND (R42 to R47), CLOSE and the trailer (R48 to R52), ABANDON (R53), the open timeout (R38, R54) and the voiding
after a failed program. -/

namespace Sys2Proof.Machine

/-! ### OPEN -/

/-- A tombstone that may be evicted: its journal record is on media (R16). -/
def Extent.evictable (flushed : Nat) (r : Extent) : Bool :=
  r.tombstone &&
    (match r.dispSeq with
     | some q => decide (q < flushed)
     | none => false)

/-- The tombstone an OPEN would evict: the one with the lowest number, which is the first, since the records stand in
increasing order (R16). -/
def State.evictee (s : State) : Option Extent := s.et.records.find? (Extent.evictable s.journal.flushed)

/-- A tombstone leaves the table, and the pair of a RELEASED one leaves the Key Index (R14, R17). -/
def State.evict (s : State) (t : Extent) : State :=
  s.withEt { s.et with
    records := s.et.records.filter (fun r => r.number != t.number)
    keys := if t.state = .released then s.et.keys.filter (fun p => p.2 != t.number) else s.et.keys }

/-- The record an OPEN creates (R1, R2, R40). -/
def Extent.created (number key group store cls : Nat) (opener : Node) (start tick : Nat) : Extent where
  number := number
  key := key
  group := group
  store := store
  cls := cls
  opener := opener
  start := start
  count := 0
  state := .opened
  lastActivity := some tick
  inFlight := some .nothing
  running := some crcInitial
  commitSecond := none
  provisional := none
  check := none
  integrity := none
  floor := none
  lastVerified := none
  sub := none
  attempts := none
  disposalSecond := none
  voidCause := none
  dispSeq := none

/-- An OPEN is taken: the record, the key, the next number, the store's open extent and its timer (R40). -/
def State.create (s : State) (opener : Node) (store cls group key start : Nat) : State :=
  let n := s.et.next
  let s1 := s.withEt { s.et with
    records := s.et.records ++ [Extent.created n key group store cls opener start s.clock.tick]
    next := n + 1
    keys := s.et.keys ++ [(key, n)] }
  (s1.modStore store (fun st => { st with openExtent := some n })).setUnit store .empty .running

/-- The fields of an OPEN receipt (13.2). -/
def openFields (number start : Nat) : List Byte := le 4 number ++ le 4 start

/-- Checks 8 and 9 of R39 and the acceptance (R13, R15, R40). -/
def judgeOpenKey (s : State) (opener : Node) (store cls group key start : Nat) : Verdict :=
  match s.keyOwner key with
  | some e =>
    match s.extent e with
    | some r =>
        .refuse (if r.state = .released then .keyRetired else .duplicateKey) (le 4 e ++ le 1 r.state.code)
    | none => .refuse .duplicateKey (le 4 e ++ [0])
  | none =>
    if Config.numbersEnd ≤ s.et.next then .refuse .tableFull []
    else if s.et.records.length < Config.maxRecords then
      .done .ok (openFields s.et.next start) (s.create opener store cls group key start)
    else
      match s.evictee with
      | none => .refuse .tableFull []
      | some t => .done .ok (openFields s.et.next start) ((s.evict t).create opener store cls group key start)

/-- The checks of OPEN in the order of R39. -/
def judgeOpen (c : Ctx) (q : Req) (s : State) : Verdict :=
  match q, c.master with
  | .openExtent store cls group key, .node n =>
    if !s.classes.fixed then .refuse .policyOpen []
    else
      match s.store store with
      | none => .refuse .badStore []
      | some st =>
        if st.isSplitting || st.openExtent.isSome then .refuse .storeBusy []
        else if st.state = .full then .refuse .storeFull []
        else if !(s.classEntry cls).defined then .refuse .badClass []
        else if key = 0 then .refuse .badKey []
        else if 4095 < group then .refuse .badRange []
        else judgeOpenKey s n store cls group key st.frontier
  | _, _ => .refuse .badKind []

/-! ### APPEND -/

/-- APPEND taken: in-flight becomes APPEND (R3). -/
def Extent.beginAppend (r : Extent) : Extent :=
  if r.quietOpen then { r with inFlight := some .append } else r

/-- A write command for a store's open extent is taken: the timer is IDLE, the staging area is in its new state, and a
DUE timeout is withdrawn (R37, R38, R55). -/
def State.takeStore (s : State) (store : Nat) (staging : Staging) : State :=
  (s.setUnit store staging .idle).dropWait (.openTimeout store)

/-- The state after an APPEND is taken, but for its slot (R43). -/
def State.beginAppend (s : State) (r : Extent) (blocks : Nat) : State :=
  ((s.modStore r.store (fun st => { st with reservation := blocks })).modExtent r.number Extent.beginAppend).takeStore
    r.store .filling

/-- The reservation condition (R27). -/
def Store.hasRoom (st : Store) (blocks : Nat) : Bool :=
  decide (st.frontier + st.reservation + blocks + 1 ≤ st.limit)

/-- The checks of APPEND in the order of R42, then the slot of R43. -/
def judgeAppend (c : Ctx) (q : Req) (s : State) : Verdict :=
  match q with
  | .append ext blocks =>
    if blocks = 0 || Config.maxRun < blocks then .refuse .badRange []
    else
      match s.writable c.master ext with
      | .error code => .refuse code []
      | .ok r =>
        if Config.maxBlocks < r.count + blocks then .refuse .extentFull []
        else if !((s.store r.store).any (·.hasRoom blocks)) then .refuse .storeSpace []
        else
          match c.slot with
          | none => .refuse .slotsFull []
          | some i =>
            .take i (.append ⟨ext, blocks, c.fragments, some s.clock.tick⟩) [] (s.beginAppend r blocks)
  | _ => .refuse .badKind []

/-- An APPEND ends without a program: its last activity is now (R3). -/
def Extent.endFetch (tick : Nat) (r : Extent) : Extent :=
  if r.state == .opened && r.inFlight == some .append then
    { r with inFlight := some .nothing, lastActivity := some tick }
  else r

/-- What a failed fetch does to extent and store: staging EMPTY, reservation 0, in-flight NONE, the timer RUNNING
(R44). -/
def State.failFetch (s : State) (ext : Nat) : State :=
  match s.extent ext with
  | none => s
  | some r =>
    ((s.modStore r.store (fun st => { st with reservation := 0 })).modExtent ext
      (Extent.endFetch s.clock.tick)).setUnit r.store .empty .running

/-- The data block count of an extent. -/
def State.countOf (s : State) (ext : Nat) : Nat := ((s.extent ext).map (·.count)).getD 0

/-- A fetch fails with its link up: the changes of `failFetch`, NODE_MEMORY_FAULT, FETCH_FAULT and COMPLETION (R44). -/
def State.fetchFault (s : State) (ref : SlotRef) (ext : Nat) : State :=
  ((s.failFetch ext).raiseFault ref).endSlot ref ⟨.nodeMemoryFault, le 2 (s.countOf ext)⟩

/-- The transfer whose data node memory answers has the lengths of the fragments (R43). -/
def sameLengths (frags : List Fragment) (data : List (List Byte)) : Bool :=
  frags.map (·.len) == data.map (·.length)

/-- The fetch is complete: the staging area is HELD, and a PROGRAM is placed with the opener as origin (R45). -/
def State.fetched (s : State) (ref : SlotRef) (h : Held) (w : AppendWork) (data : List Byte) : State :=
  match s.extent w.ext with
  | none => s
  | some r =>
    let s1 := (s.setSlot ref (.running h (.append { w with dma := none }))).setUnit r.store (.held data) .idle
    s1.place ⟨.append r.store, some (.node r.opener), ((s.store r.store).map (·.frontier)).getD 0, w.blocks⟩

/-- An APPEND program completes with OK (R3, R46). -/
def Extent.appended (blocks tick : Nat) (data : List Byte) (r : Extent) : Extent :=
  if r.state == .opened && r.inFlight == some .append then
    { r with
      count := r.count + blocks
      running := r.running.map (crcAbsorb · data)
      lastActivity := some tick
      inFlight := some .nothing }
  else r

/-- The bytes of a HELD staging area (R37). -/
def Staging.data : Staging → List Byte
  | .held data => data
  | _ => []

/-- The Write Engine's reaction to an APPEND program with OK (R46). -/
def State.appendDone (s : State) (i blocks : Nat) : State :=
  match s.openRecord i with
  | none => s
  | some r =>
    (((s.modExtent r.number (Extent.appended blocks s.clock.tick (s.unit i).staging.data)).setUnit i .empty
      .running).endWrite r ⟨.ok, le 2 (r.count + blocks)⟩)

/-! ### CLOSE and the trailer -/

/-- CLOSE taken (R5). -/
def Extent.closing (r : Extent) : Extent :=
  if r.quietOpen then { r with state := .closing, inFlight := some .close, lastActivity := none } else r

/-- The check value formed from the running check (R48, R61). -/
def Extent.closingCheck (r : Extent) : Word32 := crcFinal (r.running.getD crcInitial)

/-- The state after a CLOSE is taken, but for its slot: CLOSING, the trailer HELD, its PROGRAM placed (R48, R49). -/
def State.beginClose (s : State) (r : Extent) : State :=
  let block := trailer r r.closingCheck s.clock.seconds s.clock.state
  let s1 := (s.modExtent r.number Extent.closing).takeStore r.store (.held block)
  s1.place ⟨.trailer r.store, some (.node r.opener), ((s.store r.store).map (·.frontier)).getD 0, 1⟩

/-- The checks of CLOSE (R48). -/
def judgeClose (c : Ctx) (q : Req) (s : State) : Verdict :=
  match q with
  | .close ext =>
    match s.writable c.master ext with
    | .error code => .refuse code []
    | .ok r =>
      if r.count = 0 then .refuse .empty []
      else
        match c.slot with
        | none => .refuse .slotsFull []
        | some i => .take i (.close ext) [] (s.beginClose r)
  | _ => .refuse .badKind []

/-- The commit of an extent (R5, R50, R51). -/
def Extent.commit (second : Nat) (clock : ClockState) (r : Extent) : Extent :=
  if r.state == .closing then
    { r with
      state := .committed
      lastActivity := none
      inFlight := none
      running := none
      commitSecond := some second
      provisional := some clock.provisional
      check := some r.closingCheck
      integrity := some .unverified }
  else r

/-- The fields of a CLOSE result: commit second, check value, provisional flag, pad, effective expiry day (13.2). -/
def commitFields (second check : Nat) (provisional : Bool) (expiry : Nat) : List Byte :=
  le 4 second ++ le 4 check ++ flag provisional ++ [0] ++ le 2 expiry

/-- The Write Engine's reaction to a trailer program with OK: the CLOSING extent is COMMITTED, and a split whose stores this
makes quiet may apply (R5, R50, R32). -/
def State.trailerDone (s : State) (i : Nat) : State :=
  match s.openRecord i with
  | none => s
  | some r =>
    if r.state = .closing then
      let r' := r.commit s.clock.seconds s.clock.state
      let s1 := (s.modExtent r.number (Extent.commit s.clock.seconds s.clock.state)).setUnit i .empty .idle
      ((s1.endWrite r ⟨.ok, commitFields s.clock.seconds r.closingCheck.toNat s.clock.state.provisional
        (s.expiry r')⟩).clearStore i).judgeSince s
    else s

/-! ### ABANDON -/

/-- The checks of ABANDON in the order of R53. -/
def judgeAbandon (c : Ctx) (q : Req) (s : State) : Verdict :=
  match q with
  | .abandon ext =>
    match s.writable c.master ext with
    | .error code => .refuse code []
    | .ok r =>
      if s.journal.backlog then .refuse .journalBacklog []
      else if s.journal.full then .refuse .journalFull []
      else .done .ok (le 2 r.count) (s.voidExtent r c.origin .abandoned).judgePage
  | _ => .refuse .badKind []

/-! ### The open timeout -/

/-- The open extent has been quiet for the open timeout (R38). -/
def State.timeoutReached (s : State) (i : Nat) : Bool :=
  match s.openRecord i with
  | some r =>
    r.quietOpen && decide ((r.lastActivity.getD 0) + s.settings.openTimeout ≤ s.clock.tick)
  | none => false

/-- A RUNNING timer whose extent has been quiet for the open timeout becomes DUE, and a place for the VOIDED record is
requested (R38, R54, R155). -/
def State.judgeTimer (s : State) (i : Nat) : State :=
  if (s.unit i).timer == .running && s.timeoutReached i then
    (s.setUnit i (s.unit i).staging .due).request (.openTimeout i)
  else s

/-! ### The steps -/

/-- OPEN (R39). -/
def execOpen (h : HandOver) (s : State) : Host.Outcome State Fault Refusal :=
  .next (s.handOver h .openExtent judgeOpen)

/-- APPEND (R42). -/
def execAppend (h : HandOver) (s : State) : Host.Outcome State Fault Refusal :=
  .next (s.handOver h .append judgeAppend)

/-- CLOSE (R48). -/
def execClose (h : HandOver) (s : State) : Host.Outcome State Fault Refusal :=
  .next (s.handOver h .close judgeClose)

/-- ABANDON (R53). -/
def execAbandon (h : HandOver) (s : State) : Host.Outcome State Fault Refusal :=
  .next (s.handOver h .abandon judgeAbandon)

/-- An APPEND's fetch is complete; node memory has answered every fragment whole (R45). -/
def execFetchComplete (n : Node) (slot : Nat) (fragments : List (List Byte)) (s : State) :
    Host.Outcome State Fault Refusal :=
  match s.slot ⟨.node n, slot⟩ with
  | some (.running h (.append w)) =>
      if w.dma.isSome && sameLengths w.fragments fragments then
        .next (s.fetched ⟨.node n, slot⟩ h w fragments.flatten)
      else .next s
  | _ => .next s

/-- An APPEND's fetch fails (R44). -/
def execFetchFailed (n : Node) (slot : Nat) (s : State) : Host.Outcome State Fault Refusal :=
  match s.slot ⟨.node n, slot⟩ with
  | some (.running _ (.append w)) =>
      if w.dma.isSome then .next (s.fetchFault ⟨.node n, slot⟩ w.ext) else .next s
  | _ => .next s

/-- An APPEND program completes with OK (R46). -/
def execAppendProgramOk (s : State) : Host.Outcome State Fault Refusal :=
  match s.answering with
  | some ⟨.append i, _, _, blocks⟩ => .next (s.appendDone i blocks).complete
  | _ => .next s

/-- An APPEND program completes with MEDIA_ERROR, and a place for a VOIDED record is requested (R47, R155). -/
def execAppendProgramMediaError (s : State) : Host.Outcome State Fault Refusal :=
  match s.answering with
  | some ⟨.append i, _, _, _⟩ => .next (s.request (.mediaFault i)).complete
  | _ => .next s

/-- The trailer program completes with OK (R50). -/
def execTrailerOk (s : State) : Host.Outcome State Fault Refusal :=
  match s.answering with
  | some ⟨.trailer i, _, _, _⟩ => .next (s.trailerDone i).complete
  | _ => .next s

/-- The trailer program completes with MEDIA_ERROR, and a place for a VOIDED record is requested (R52, R155). -/
def execTrailerMediaError (s : State) : Host.Outcome State Fault Refusal :=
  match s.answering with
  | some ⟨.trailer i, _, _, _⟩ => .next (s.request (.mediaFault i)).complete
  | _ => .next s

/-- A place is granted to the request of a failed program that waits (R47, R52). -/
def execMediaFaultVoid (store : Nat) (s : State) : Host.Outcome State Fault Refusal :=
  .next (s.grantPlace (.mediaFault store))

/-- A store's timer becomes DUE; the tick makes this judgement for every store (R38, R54). -/
def execOpenTimeoutDue (store : Nat) (s : State) : Host.Outcome State Fault Refusal := .next (s.judgeTimer store)

/-- The place of an open timeout that waits is granted, and it takes effect (R54). -/
def execOpenTimeout (store : Nat) (s : State) : Host.Outcome State Fault Refusal :=
  .next (s.grantPlace (.openTimeout store))

end Sys2Proof.Machine
end

