-- ==== Sys2Proof/WellFormed.lean ====
section
/-! DEFINITION. Which commands can reach the part at all: operands inside the ranges the manual gives the
thing they stand for. Only an ill-formed CAPSULE_WINDOW_WRITE stops a run (log 16); any other ill-formed
command names an event that cannot occur, and changes nothing (log 3). -/

namespace Sys2Proof

/-- A slot that exists: eight on a link (R168), two on CPORT (R177). -/
def SlotRef.wellFormed (r : SlotRef) : Bool :=
  match r.master with
  | .node _ => decide (r.index < 8)
  | .cport => decide (r.index < 2)

/-- A number of bytes that is 1 to 32 whole blocks (R74). -/
def wholeBlocks (bytes : List Byte) : Bool :=
  bytes.length % Config.blockBytes == 0 && decide (Config.blockBytes ≤ bytes.length) &&
    decide (bytes.length ≤ Config.maxRun * Config.blockBytes)

/-- A write that lies within the 512 bytes of the capsule window: writes are of any size, and any write into the window
sets the mark (R165). A write of no byte at an offset of the window counts as one into it: DEDUCED (log 16). -/
def insideWindow (offset : Nat) (bytes : List Byte) : Bool :=
  decide (offset < Config.windowBytes) && decide (offset + bytes.length ≤ Config.windowBytes)

/-- An I2C write that ends before its capsule does (R175). -/
def shortTransaction (bytes : List Byte) : Bool :=
  decide (bytes.length < 128)

/-- Operands of every command within their ranges. -/
def Instr.wellFormed : Instr → Bool
  | .powerOn _ => true
  | .resetNAssert => true
  | .resetNRelease _ => true
  | .recoveryVoid => true
  | .start => true
  | .linkReset _ => true
  | .linkUp _ => true
  | .msiEnableWrite _ _ => true
  | .capsuleWindowWrite _ offset bytes => insideWindow offset bytes
  | .noCapsule _ => true
  | .badKind _ => true
  | .cportPartialCapsule _ bytes => shortTransaction bytes
  | .cportReceiptRead _ len => decide (0 < len)
  | .roleChange => true
  | .openExtent _ => true
  | .append _ => true
  | .close _ => true
  | .abandon _ => true
  | .read _ => true
  | .verify _ => true
  | .query _ => true
  | .find _ => true
  | .status _ => true
  | .window _ => true
  | .time _ => true
  | .events _ => true
  | .dispose _ => true
  | .holdPlace _ => true
  | .holdLift _ => true
  | .holdList _ => true
  | .extend _ => true
  | .classSet _ => true
  | .classGet _ => true
  | .policyFix _ => true
  | .adopt _ => true
  | .route _ => true
  | .split _ => true
  | .journalRead _ => true
  | .tick => true
  | .openTimeoutDue store => decide (store < 4)
  | .openTimeout store => decide (store < 4)
  | .splitTimeout => true
  | .holdover => true
  | .partialPageTime => true
  | .mediaAnswerLimit => true
  | .dmaReadTimeout _ slot _ => decide (slot < 8)
  | .fetchComplete _ slot fragments =>
      decide (slot < 8) && decide (0 < fragments.length) && decide (fragments.length ≤ 16)
  | .fetchFailed _ slot => decide (slot < 8)
  | .appendProgramOk => true
  | .appendProgramMediaError => true
  | .trailerOk => true
  | .trailerMediaError => true
  | .mediaFaultVoid store => decide (store < 4)
  | .readFetchOk data => wholeBlocks data
  | .readFetchMediaError => true
  | .readDmaComplete _ slot => decide (slot < 8)
  | .readDmaFailed _ slot _ => decide (slot < 8)
  | .verifyFetchOk data => wholeBlocks data
  | .verifyFetchMediaError => true
  | .integrityRecord slot => slot.wellFormed
  | .journalReadFetchDone page =>
      match page with
      | none => true
      | some bytes => bytes.length == Config.blockBytes
  | .headTake => true
  | .readersDrained => true
  | .scrubCompleteOk => true
  | .disposed => true
  | .scrubMediaError => true
  | .disposalFailed => true
  | .splitApply => true
  | .journalWriteOk => true
  | .journalWriteMediaError => true
  | .coalescedClockState => true
  | .cmodeSample _ => true
  | .powerLoss => true

end Sys2Proof
end

