-- ==== Sys2Proof/Machine/Links.lean ====
section
/-! DEFINITION. The node links and the compliance port below the capsules: capsule window and hand-over (R165), link
reset and training (R173, R168, R72, R83), the MSI-enabled flag, refusals without an owner (R166 steps 1 and 2, R176),
I2C transactions (R175, R176), CMODE (R178), and the capsule kinds the link and the router own: WINDOW (R171), EVENTS
and ROUTE (R182). -/

namespace Sys2Proof.Machine

/-! ### Link reset -/

/-- A FETCH of a READ's slot waits at the Media Arbiter. -/
def State.readWaits (s : State) (ref : SlotRef) : Bool := s.media.waiting.any (fun op => op.requester == .read ref)

/-- The FETCH of a READ is withdrawn from the wait list (R83). -/
def State.withdrawRead (s : State) (ref : SlotRef) : State :=
  s.withMedia { s.media with waiting := s.media.waiting.filter (fun op => op.requester != .read ref) }

/-- What a reset of the link does to one of its slots (R168, R172, R56, R72). -/
def State.resetSlot (s : State) (ref : SlotRef) : State :=
  match s.slot ref with
  | some (.running _ (.read w)) =>
      if s.readWaits ref then ((s.withdrawRead ref).dropReader w.ext).setSlot ref .free
      else if w.dma.isSome then (s.dropReader w.ext).setSlot ref .free
      else s.setSlot ref (.detached (.read w))
  | some (.running _ (.verify w)) => s.setSlot ref (.detached (.verify w))
  | some (.running _ (.append w)) =>
      (if w.dma.isSome then s.failFetch w.ext else s).setSlot ref .free
  | some (.running _ _) => s.setSlot ref .free
  | some (.finished _ _) => s.setSlot ref .free
  | _ => s

/-- What a reset does to the link's own items (R165, R171, R173, R106); the MSI-enabled flag stays, and the latch shows the
last writes to node memory (log 11). -/
def LinkState.afterReset (l : LinkState) (out : List Host.Cell) : LinkState :=
  { LinkState.reset with slots := l.slots, msiEnabled := l.msiEnabled, dmaOut := out }

/-- The READ whose transfer a slot runs (R66). -/
def Slot.transfer : Slot → Option ReadWork
  | .running _ (.read w) => if w.dma.isSome then some w else none
  | _ => none

/-- A READ's transfer is in progress on the link. -/
def LinkState.moving (l : LinkState) : Bool := l.slots.any (fun v => v.transfer.isSome)

/-- What a link that is lost leaves in node memory: for each of its transfers in progress, in slot order, the bytes that it
had placed, of which `placed` says how many for the slot; without a transfer the latch is as it was (R72; log 11). -/
def LinkState.cutTransfers (l : LinkState) (placed : Nat → Nat) : List Host.Cell :=
  if l.moving then
    (l.slots.mapIdx (fun i v => match v.transfer with
      | some w => (dmaCells w.fragments w.buffer).take (placed i)
      | none => [])).flatten
  else l.dmaOut

/-- Empties the pending set of a target (R181, R182). -/
def State.clearSet (s : State) (m : Master) : State :=
  match m with
  | .node .a => s.withRouter { s.router with setA := [] }
  | .node .b => s.withRouter { s.router with setB := [] }
  | .cport => s.withRouter { s.router with setC := [] }

/-- The slot reference of an entry goes when its slot is on the link that is reset (R141, R148). -/
def QueueEntry.orphan (n : Node) (e : QueueEntry) : QueueEntry :=
  { e with slot := e.slot.filter (fun ref => ref.master != .node n) }

/-- The slots of a node link. -/
def linkSlots (n : Node) : List SlotRef := (List.range 8).map (fun i => ⟨.node n, i⟩)

/-- A reset of a node's link, in one step. How many bytes each transfer in progress had placed is a FREE VALUE (R173, R72;
log 7, log 17). -/
def State.resetLink (s : State) (n : Node) : State :=
  let s1 := (linkSlots n).foldl State.resetSlot s
  let s2 := s1.withEngine { s1.engine with queue := s1.engine.queue.map (QueueEntry.orphan n) }
  let out := (s.link n).cutTransfers (fun i => Config.placedBytes (s.freeCount + i))
  let s3 := (s2.withLink n ((s2.link n).afterReset out)).clearSet (.node n)
  s3.withFreeCount (if (s.link n).moving then s.freeCount + 8 else s.freeCount)

/-! ### The capsule window -/

/-- Bytes stored into the window at an offset (R165). -/
def storeBytes (window : List Byte) (offset : Nat) (bytes : List Byte) : List Byte :=
  window.take offset ++ bytes ++ window.drop (offset + bytes.length)

/-- A write into the window of a link, which sets the capsule-written mark (R165). -/
def State.writeWindow (s : State) (n : Node) (offset : Nat) (bytes : List Byte) : State :=
  s.withLink n { s.link n with window := storeBytes (s.link n).window offset bytes, mark := true }

/-! ### CPORT reads -/

/-- The last receipt is UNREAD (R176). -/
def CPort.unread (p : CPort) : Bool := p.last.any (fun l => !l.isRead)

/-- The bytes an I2C read returns (log 11). -/
def State.latchRead (s : State) (bytes : List Byte) : State := s.withCport { s.cport with readOut := bytes }

/-- An I2C read of an UNREAD last receipt: its bytes, and READ once at least one of them was returned (R176). -/
def State.readReceipt (s : State) (len : Nat) : State :=
  match s.cport.last with
  | none => s
  | some l =>
    if l.isRead then s
    else
      (s.withCport { s.cport with last := some { l with isRead := decide (0 < len) } }).latchRead
        (readBytes l.receipt len)

/-! ### CMODE (R178) -/

/-- A level as the role it selects: low is COMPLIANCE (R178). -/
def roleOfLevel (low : Bool) : Role := if low then .compliance else .examiner

/-- When the count reaches N, the role becomes the candidate's and the count 0 (R178). -/
def CPort.turned (p : CPort) (n : Nat) : CPort := if n ≤ p.count then { p with role := p.candidate, count := 0 } else p

/-- One CMODE sample, with the change of role in the step in which the count reaches N (R178). The count never passes
15. -/
def CPort.sample (p : CPort) (n : Nat) (level : Role) : CPort :=
  if level = p.role then { p with count := 0 }
  else if level = p.candidate ∧ 0 < p.count then { p with count := min 15 (p.count + 1) }.turned n
  else { p with candidate := level, count := 1 }.turned n

/-! ### WINDOW, EVENTS, ROUTE -/

/-- The fields of a WINDOW receipt (13.2). -/
def windowFields (base limit : Nat) : List Byte := le 6 base ++ le 6 limit ++ flag (decide (base ≤ limit))

/-- WINDOW replaces the staging window of its link (R171). -/
def judgeWindow (c : Ctx) (q : Req) (s : State) : Verdict :=
  match q, c.master with
  | .window base limit, .node n =>
      .done .ok (windowFields base limit) (s.withLink n { s.link n with base := base, limit := limit })
  | _, _ => .refuse .badKind []

/-- EVENTS returns and empties the pending set of its target (R182). -/
def judgeEvents (c : Ctx) (q : Req) (s : State) : Verdict :=
  match q with
  | .events => .done .ok (le 2 (classBits (s.pendingSet c.master))) (s.clearSet c.master)
  | _ => .refuse .badKind []

/-- The forced target of a class as a byte of the ROUTE receipt: CPORT, none, or for OPEN_TIMEOUT the link of whichever
node opened the extent, a FREE VALUE (R180, 13.2; log 7). -/
def forcedByte : EventClass → List Byte
  | .openTimeout => [Config.openerForcedByte]
  | .integrity => [4]
  | .holdLate => [4]
  | .disposalFailed => [4]
  | .journalFull => [4]
  | _ => [0]

/-- ROUTE replaces the route of a routable class (R182). -/
def judgeRoute (_c : Ctx) (q : Req) (s : State) : Verdict :=
  match q with
  | .route cls rt =>
    match EventClass.ofCode cls with
    | none => .refuse .badRange []
    | some k =>
      if k = .completion ∨ k = .fetchFault then .refuse .badRange []
      else
        .done .ok (le 1 cls ++ le 1 rt.byte ++ forcedByte k)
          (s.withRouter { s.router with routes := s.router.routes.set cls rt })
  | _ => .refuse .badKind []

/-! ### The steps -/

/-- A node's link is lost, hot-reset or reset by PERST (R173). Without power, or while RESET_N is low, the link is at its
reset values already. -/
def execLinkReset (n : Node) (s : State) : Host.Outcome State Fault Refusal :=
  if s.live then .next (s.resetLink n) else .next s

/-- Link training completes (R173). -/
def execLinkUp (n : Node) (s : State) : Host.Outcome State Fault Refusal :=
  if s.live then .next (s.withLink n { s.link n with up := true }) else .next s

/-- The node sets or clears the MSI-enabled flag through its link's configuration space (R173; log 18). -/
def execMsiEnableWrite (n : Node) (enable : Bool) (s : State) : Host.Outcome State Fault Refusal :=
  if s.reachable n then .next (s.withLink n { s.link n with msiEnabled := enable }) else .next s

/-- A write into the capsule window (R165); one that does not lie within the window faults (log 16). -/
def execCapsuleWindowWrite (n : Node) (offset : Nat) (bytes : List Byte) (s : State) :
    Host.Outcome State Fault Refusal :=
  if !insideWindow offset bytes then .fault .outsideWindow
  else if s.reachable n then .next (s.writeWindow n offset bytes)
  else .next s

/-- A hand-over read that finds the mark clear, or an I2C read that finds no unread receipt: REFUSED with NO_CAPSULE
(R165, R176). -/
def execNoCapsule (r : ReceiptRead) (s : State) : Host.Outcome State Fault Refusal :=
  match r with
  | .link n =>
      if s.reachable n && !(s.link n).mark then
        .next (s.withLink n { s.link n with receipt := some (noCapsuleReceipt none) })
      else .next s
  | .cport addr len =>
      if s.answers addr && !s.cport.unread then
        .next (s.latchRead (readBytes (noCapsuleReceipt (some s.cport.role)) len))
      else .next s

/-- A capsule of unknown kind or wrong length (R166, R175, R177). -/
def execBadKind (h : HandOver) (s : State) : Host.Outcome State Fault Refusal := .next (s.refuseKind h)

/-- An I2C write that ends before its capsule does: the partial capsule is discarded, nothing is handed over, and the
last receipt is unchanged (R175). -/
def execCportPartialCapsule (_addr : BitVec 7) (_bytes : List Byte) (s : State) : Host.Outcome State Fault Refusal :=
  .next s

/-- An I2C read that returns the last receipt (R176). -/
def execCportReceiptRead (addr : BitVec 7) (len : Nat) (s : State) : Host.Outcome State Fault Refusal :=
  if s.answers addr then .next (s.readReceipt len) else .next s

/-- A CMODE sample (R178). -/
def execCmodeSample (low : Bool) (s : State) : Host.Outcome State Fault Refusal :=
  if s.live then .next (s.withCport (s.cport.sample s.settings.cmodeN (roleOfLevel low))) else .next s

/-- The count is at N, and the role becomes the candidate's; the sample that brings it there makes this change itself
(R178; log 2). -/
def execRoleChange (s : State) : Host.Outcome State Fault Refusal :=
  if s.live then .next (s.withCport (s.cport.turned s.settings.cmodeN)) else .next s

/-- WINDOW (R171). -/
def execWindow (h : HandOver) (s : State) : Host.Outcome State Fault Refusal :=
  .next (s.handOver h .window judgeWindow)

/-- EVENTS (R182). -/
def execEvents (h : HandOver) (s : State) : Host.Outcome State Fault Refusal :=
  .next (s.handOver h .events judgeEvents)

/-- ROUTE (R182). -/
def execRoute (h : HandOver) (s : State) : Host.Outcome State Fault Refusal :=
  .next (s.handOver h .route judgeRoute)

end Sys2Proof.Machine
end

