-- ==== Sys2Proof/Machine/Disposition.lean ====
section
/-! DEFINITION. Disposition (Chapter 9): DISPOSE and its classification (R137 to R140), the taking of a head and the
issue-time check at placement (R142, R143), and the outcomes of scrubs (R145, R146). -/

namespace Sys2Proof.Machine

/-! ### DISPOSE -/

/-- The last number of a range brought to at most 256 numbers (R117, R137). -/
def adjustedLast (first last : Nat) : Nat :=
  if first ≤ last ∧ Config.maxRange < last - first + 1 then first + (Config.maxRange - 1) else last

/-- The numbers of a range, in increasing order. -/
def rangeNumbers (first last : Nat) : List Nat := (List.range (last + 1 - first)).map (first + ·)

/-- A node is the origin. -/
def isNode : Master → Bool
  | .node _ => true
  | .cport => false

/-- The outcome of one number (R138). -/
def State.classify (s : State) (m : Master) (n : Nat) : Outcome :=
  match s.extent n with
  | none => .notPresent
  | some r =>
    match r.state with
    | .opened => .notCommitted
    | .closing => .notCommitted
    | .voided => .notCommitted
    | .disposing => .already
    | .released => .already
    | state =>
      if state = .disposalFailed ∧ isNode m then .failedPrior
      else if !s.expired r then .notExpired
      else if s.isHeld r then .held
      else if isNode m && s.custodianOnly r then .complianceOnly
      else .queued

/-- The place of an outcome in the order of R138. -/
def Outcome.index : Outcome → Nat
  | .notPresent => 0
  | .notCommitted => 1
  | .already => 2
  | .failedPrior => 3
  | .notExpired => 4
  | .held => 5
  | .complianceOnly => 6
  | .queued => 7

/-- Into DISPOSING at QUEUED with attempts 0 (R6). -/
def Extent.queue (r : Extent) : Extent :=
  if r.state = .committed ∨ r.state = .disposalFailed then
    { r with state := .disposing, sub := some .queued, attempts := some 0 }
  else r

/-- An extent classified QUEUED joins the end of the disposal queue (R138, R141). -/
def State.enqueue (s : State) (e : QueueEntry) : State :=
  (s.modExtent e.ext Extent.queue).withEngine { s.engine with queue := s.engine.queue ++ [e] }

/-- The count of a classification so far: the eight outcome counts, the last number examined. -/
structure Tally where
  counts : List Nat
  examined : Option Nat
  deriving DecidableEq, Repr

/-- Nothing examined yet. -/
def Tally.start : Tally := ⟨List.replicate 8 0, none⟩

/-- Counts one number (R138, R139). -/
def Tally.add (t : Tally) (o : Outcome) (n : Nat) : Tally := ⟨t.counts.modify o.index (· + 1), some n⟩

/-- How many numbers were QUEUED. -/
def Tally.queued (t : Tally) : Nat := (t.counts[7]?).getD 0

/-- The classification of the numbers in order, stopped at a full queue (R138, R139). -/
def State.classifyAll (m : Master) (slot : Option SlotRef) : List Nat → State → Tally → State × Tally
  | [], s, t => (s, t)
  | n :: ns, s, t =>
    if Config.maxQueue ≤ s.engine.queue.length then (s, t)
    else
      match s.classify m n with
      | .queued => State.classifyAll m slot ns (s.enqueue ⟨n, .master m, slot⟩) (t.add .queued n)
      | o => State.classifyAll m slot ns s (t.add o n)

/-- The counts a DISPOSE slot starts with (R140). -/
def Tally.work (t : Tally) (first : Nat) : DisposeWork where
  first := first
  last := t.examined.getD 0
  counts := t.counts
  queued := t.queued
  released := 0
  returned := 0
  failed := 0

/-- The checks of DISPOSE and its receipts (R137, R140). -/
def judgeDispose (c : Ctx) (q : Req) (s : State) : Verdict :=
  match q with
  | .dispose first last =>
    if last < first then .refuse .badRange []
    else if s.journal.exhausted then .refuse .journalFull []
    else
      let (s1, t) := State.classifyAll c.master (c.slot.map (fun i => ⟨c.master, i⟩))
        (rangeNumbers first (adjustedLast first last)) s Tally.start
      let w := t.work first
      if t.queued = 0 then .done .ok w.fields s
      else
        match c.slot with
        | none => .refuse .slotsFull []
        | some i => .take i (.dispose w) w.fields s1
  | _ => .refuse .badKind []

/-! ### The head -/

/-- QUEUED becomes SCRUB_NEXT (R7). -/
def Extent.headTaken (r : Extent) : Extent :=
  if r.state == .disposing && r.sub == some .queued then { r with sub := some .scrubNext } else r

/-- The SCRUB of an extent: its data blocks and its trailer (R74). -/
def scrubOp (r : Extent) : MediaOp where
  requester := .scrub r.number
  origin := none
  first := r.start
  count := r.count + 1

/-- The issue-time check at placement: the SCRUB is placed, or the head returns to COMMITTED (R143). -/
def State.placeScrub (s : State) (n : Nat) : State :=
  match s.extent n with
  | none => s
  | some r => if s.mayScrub n then (s.setStage .placed).place (scrubOp r) else s.returnHead

/-- The oldest entry is taken as head (R142). -/
def State.takeHead (s : State) : State :=
  match s.engine.queue with
  | [] => s
  | e :: _ =>
    let s1 := s.modExtent e.ext Extent.headTaken
    if 0 < s1.readerCount e.ext then s1.setStage .readers else s1.placeScrub e.ext

/-- A failed scrub with attempts left: attempts grow, back to SCRUB_NEXT (R3, R7). -/
def Extent.scrubFailed (r : Extent) : Extent :=
  if r.isScrubbing then { r with sub := some .scrubNext, attempts := r.attempts.map (· + 1) } else r

/-- The Disposition Engine's reaction to a SCRUB with MEDIA_ERROR (R146, R149). -/
def State.scrubFault (s : State) (n : Nat) : State :=
  match s.extent n with
  | none => s
  | some r =>
    if r.attempts.getD 0 < 2 then
      let s1 := s.modExtent n Extent.scrubFailed
      if s1.journal.exhausted then s1.returnHead else s1.placeScrub n
    else (s.setStage .recording).request .disposalFailed

/-! ### The steps -/

/-- DISPOSE (R137). -/
def execDispose (h : HandOver) (s : State) : Host.Outcome State Fault Refusal :=
  .next (s.handOver h .dispose judgeDispose)

/-- The IDLE engine takes the oldest entry as head, once capsules are taken (R142, R150). -/
def execHeadTake (s : State) : Host.Outcome State Fault Refusal :=
  if s.taking && s.engine.stage == .idle then .next s.takeHead else .next s

/-- The head's reader count has fallen to 0 (R142). -/
def execReadersDrained (s : State) : Host.Outcome State Fault Refusal :=
  match s.engine.stage, s.engine.queue with
  | .readers, e :: _ => if s.readerCount e.ext = 0 then .next (s.placeScrub e.ext) else .next s
  | _, _ => .next s

/-- The head's SCRUB completes with OK, and a place for the DISPOSED record is requested (R145, R155). -/
def execScrubCompleteOk (s : State) : Host.Outcome State Fault Refusal :=
  match s.answering with
  | some ⟨.scrub _, _, _, _⟩ => .next ((s.setStage .recording).request .disposed).complete
  | _ => .next s

/-- The place of a DISPOSED record that waits is granted (R145). -/
def execDisposed (s : State) : Host.Outcome State Fault Refusal := .next (s.grantPlace .disposed)

/-- The head's SCRUB completes with MEDIA_ERROR (R146). -/
def execScrubMediaError (s : State) : Host.Outcome State Fault Refusal :=
  match s.answering with
  | some ⟨.scrub n, _, _, _⟩ => .next (s.scrubFault n).complete
  | _ => .next s

/-- The place of a DISPOSAL_FAILED record that waits is granted (R146). -/
def execDisposalFailed (s : State) : Host.Outcome State Fault Refusal := .next (s.grantPlace .disposalFailed)

end Sys2Proof.Machine
end

