-- ==== Sys2Proof/Machine/Policy.lean ====
section
/-! DEFINITION. Retention policy (Chapter 7): CLASS_SET (R110 to R112), CLASS_GET (R114), POLICY_FIX (R113) and EXTEND
(R117 to R120). -/

namespace Sys2Proof.Machine

/-! ### Classes -/

/-- The entry a CLASS_SET sends, its period brought to at most 36,500 days (R110). -/
def sentEntry (defined forever : Bool) (mode period : Nat) : ClassEntry where
  defined := defined
  period := min Config.maxPeriod period
  permanent := forever
  complianceOnly := mode == 1

/-- The entry sent loosens the present one (R112). -/
def ClassEntry.loosenedBy (present sent : ClassEntry) : Bool :=
  present.defined &&
    (!sent.defined || decide (sent.period < present.period) || (present.permanent && !sent.permanent) ||
      (present.complianceOnly && !sent.complianceOnly))

/-- The fields of a CLASS_SET or CLASS_GET receipt: the entry and the latch (13.2). -/
def classFields (e : ClassEntry) (fixed : Bool) : List Byte := e.receiptBytes ++ flag fixed

/-- Writes one entry of the class table (R111, R112). -/
def State.writeClass (s : State) (cls : Nat) (e : ClassEntry) : State :=
  s.withClasses { s.classes with entries := s.classes.entries.set cls e }

/-- A CLASS_SET is taken: without record while the latch is clear, with one after it (R111, R112). -/
def State.setClass (s : State) (o : Origin) (cls : Nat) (e : ClassEntry) : State :=
  if s.classes.fixed then ((s.writeClass cls e).record o (.classSet cls (s.classEntry cls) e)).judgePage
  else s.writeClass cls e

/-- The checks of CLASS_SET in the order of R110. -/
def judgeClassSet (c : Ctx) (q : Req) (s : State) : Verdict :=
  match q with
  | .classSet cls defined forever mode period =>
    let present := s.classEntry cls
    let sent := sentEntry defined forever mode period
    let latch := s.classes.fixed
    if 15 < cls || 1 < mode then .refuse .badClass []
    else if latch && present.loosenedBy sent then .refuse .classShorten (classFields present latch)
    else if s.journal.exhausted then .refuse .journalFull (classFields present latch)
    else if latch && s.journal.backlog then .refuse .journalBacklog (classFields present latch)
    else .done .ok (classFields sent latch) (s.setClass c.origin cls sent)
  | _ => .refuse .badKind []

/-- CLASS_GET (R114). -/
def judgeClassGet (_c : Ctx) (q : Req) (s : State) : Verdict :=
  match q with
  | .classGet cls =>
    if 15 < cls then .refuse .badClass [] else .done .ok (classFields (s.classEntry cls) s.classes.fixed) s
  | _ => .refuse .badKind []

/-- The number of defined classes (R113). -/
def State.definedCount (s : State) : Nat := s.classes.entries.countP (·.defined)

/-- The policy is fixed: the latch, and the POLICY_FIXED record of all sixteen entries (R113). -/
def State.fixPolicy (s : State) (o : Origin) : State :=
  ((s.withClasses { s.classes with fixed := true }).record o (.policyFixed s.classes.entries)).judgePage

/-- The checks of POLICY_FIX in the order of R113. -/
def judgePolicyFix (c : Ctx) (q : Req) (s : State) : Verdict :=
  match q with
  | .policyFix =>
    if s.classes.fixed then .refuse .alreadyFixed []
    else if s.definedCount = 0 then .refuse .noClasses []
    else if s.journal.exhausted then .refuse .journalFull []
    else if s.journal.backlog then .refuse .journalBacklog []
    else .done .ok (le 1 s.definedCount) (s.fixPolicy c.origin)
  | _ => .refuse .badKind []

/-! ### EXTEND -/

/-- The four outcome counts of an EXTEND and the count of extended extents at SCRUBBING (R118, R119). -/
structure ExtendTally where
  extended : Nat
  unchanged : Nat
  notRetained : Nat
  notPresent : Nat
  scrubbing : Nat
  deriving DecidableEq, Repr

/-- The days of an extension as adjusted; none for PERMANENT (R117). -/
def extensionDays (forever : Bool) (days : Nat) : Option Nat :=
  if forever then none else some (max 1 (min Config.maxPeriod days))

/-- The new floor of an extent with effective expiry day `expiry`; none where it stays unchanged (R118). -/
def newFloor (expiry : Nat) : Option Nat → Option Nat
  | none => if expiry = Config.permanentDay then none else some Config.permanentDay
  | some days =>
    if expiry = Config.permanentDay ∨ expiry = Config.capDay then none
    else some (min Config.capDay (expiry + days))

/-- The floor change of R3, in the retained states. -/
def Extent.extend (floor : Nat) (r : Extent) : Extent := if r.retained then { r with floor := some floor } else r

/-- One number of the range (R118). -/
def State.extendOne (days : Option Nat) (p : State × ExtendTally) (n : Nat) : State × ExtendTally :=
  let (s, t) := p
  match s.extent n with
  | none => (s, { t with notPresent := t.notPresent + 1 })
  | some r =>
    if !r.retained then (s, { t with notRetained := t.notRetained + 1 })
    else
      match newFloor (s.expiry r) days with
      | none => (s, { t with unchanged := t.unchanged + 1 })
      | some f =>
        (s.modExtent n (Extent.extend f),
          { t with extended := t.extended + 1, scrubbing := t.scrubbing + r.isScrubbing.toNat })

/-- Every number of the range in increasing order (R118). -/
def State.extendAll (s : State) (first last : Nat) (days : Option Nat) : State × ExtendTally :=
  (rangeNumbers first last).foldl (State.extendOne days) (s, ⟨0, 0, 0, 0, 0⟩)

/-- The fields of an EXTEND receipt (13.2). -/
def ExtendTally.fields (t : ExtendTally) (last : Nat) : List Byte :=
  le 4 last ++ le 2 t.extended ++ le 2 t.unchanged ++ le 2 t.notRetained ++ le 2 t.notPresent ++ le 2 t.scrubbing

/-- The EXTENDED record (R119). -/
def ExtendTally.subject (t : ExtendTally) (first last : Nat) (days : Option Nat) : Subject :=
  .extended first last (days.getD Config.permanentDay) t.extended t.unchanged t.notRetained t.notPresent

/-- The checks of EXTEND in the order of R117, and the extension (R118, R119). -/
def judgeExtend (c : Ctx) (q : Req) (s : State) : Verdict :=
  match q with
  | .extend first sentLast forever sentDays =>
    if sentLast < first then .refuse .badRange []
    else if s.journal.exhausted then .refuse .journalFull []
    else if s.journal.backlog then .refuse .journalBacklog []
    else
      let last := adjustedLast first sentLast
      let days := extensionDays forever sentDays
      let (s1, t) := s.extendAll first last days
      .done .ok (t.fields last) (s1.record c.origin (t.subject first last days)).judgePage
  | _ => .refuse .badKind []

/-! ### The steps -/

/-- EXTEND (R117). -/
def execExtend (h : HandOver) (s : State) : Host.Outcome State Fault Refusal :=
  .next (s.handOver h .extend judgeExtend)

/-- CLASS_SET (R110). -/
def execClassSet (h : HandOver) (s : State) : Host.Outcome State Fault Refusal :=
  .next (s.handOver h .classSet judgeClassSet)

/-- CLASS_GET (R114). -/
def execClassGet (h : HandOver) (s : State) : Host.Outcome State Fault Refusal :=
  .next (s.handOver h .classGet judgeClassGet)

/-- POLICY_FIX (R113). -/
def execPolicyFix (h : HandOver) (s : State) : Host.Outcome State Fault Refusal :=
  .next (s.handOver h .policyFix judgePolicyFix)

end Sys2Proof.Machine
end

