-- ==== Sys2Proof/Machine/Power.lean ====
section
/-! DEFINITION. Power and start-up: what volatile state becomes (R185 and the reset values of every chapter), the
configuration image (R183), initialization (R184), the recovery of the blocks (R163, R10, R35, R150), and the steps
POWER_ON, RESET_N_ASSERT, RESET_N_RELEASE, RECOVERY_VOID, START and POWER_LOSS. -/

namespace Sys2Proof.Machine

/-! ### Volatile state -/

/-- The journal as table memory keeps it: entry ticks 0, mark and waiting requests gone (R154, R155, R156). -/
def Journal.kept (j : Journal) : Journal :=
  { j with buffer := j.buffer.map (fun e => { e with entered := 0 }), mark := none, waits := [] }

/-- Every volatile item at its value after POWER_ON and RESET_N, table memory as it was (00_scope.md section 4,
R185). -/
def State.volatileReset (s : State) (phase : Phase) : State :=
  { State.reset with
    phase := phase
    marker := s.marker
    et := s.et
    storeMap := s.storeMap
    clock := Clock.reset s.clock.seconds
    classes := s.classes
    holds := s.holds
    journal := s.journal.kept
    freeCount := s.freeCount
    pending := s.pending }

/-! ### The configuration image (R183, 13.7) -/

/-- A value brought to the nearer end of a range (00_scope.md section 5). -/
def clamp (low high v : Nat) : Nat := max low (min high v)

/-- What the entries read so far have set. -/
structure Loaded where
  settings : Settings
  routes : List Route
  journalBase : Nat
  journalPages : Nat
  journalEntries : Nat
  dataBase : Option Nat
  dataSize : Nat
  dataEntries : Nat
  classes : List ClassEntry
  deriving DecidableEq, Repr

/-- The defaults of R183 and R184. -/
def Loaded.defaults : Loaded where
  settings := Settings.reset
  routes := Route.defaults
  journalBase := 0
  journalPages := 4096
  journalEntries := 0
  dataBase := none
  dataSize := 0
  dataEntries := 0
  classes := List.replicate 16 ClassEntry.blank

/-- One more skipped entry (R183). -/
def Loaded.skip (l : Loaded) (n : Nat) : Loaded :=
  { l with settings := { l.settings with skipped := l.settings.skipped + n } }

/-- The class entry of setting 20: flags as in 13.6, period clamped (R108, 13.7). -/
def imageClass (e : List Byte) : ClassEntry where
  defined := (field 5 1 e).testBit 0
  period := clamp 0 Config.maxPeriod (field 6 2 e)
  permanent := (field 5 1 e).testBit 1
  complianceOnly := (field 5 1 e).testBit 2

/-- An event route of the image: one of the nine routable classes, 2 to 10 (R180). -/
def routable (n : Nat) : Bool := decide (2 ≤ n) && decide (n ≤ 10)

/-- The loader's action on one entry of 8 bytes whose number is not 0 (R183, 13.7). -/
def Loaded.apply (marker : Bool) (l : Loaded) (e : List Byte) : Loaded :=
  let v := field 4 4 e
  let c := field 4 1 e
  match field 0 4 e with
  | 1 => { l with settings := { l.settings with cportAddr := BitVec.ofNat 7 (clamp 0x08 0x77 v) } }
  | 2 => { l with settings := { l.settings with cmodeN := clamp 2 15 v } }
  | 3 => { l with settings := { l.settings with openTimeout := clamp 10 3600 v } }
  | 4 => { l with settings := { l.settings with holdoverTime := clamp 60 86400 v } }
  | 5 => { l with settings := { l.settings with partialTime := clamp 10 600 v } }
  | 6 => { l with settings := { l.settings with arbiter := if v = 0 then .fixed else .rotating } }
  | 7 => if routable c then { l with routes := l.routes.set c (Route.ofByte (field 5 1 e)) } else l.skip 1
  | 16 => if marker then l else { l with journalBase := v, journalEntries := l.journalEntries + 1 }
  | 17 =>
      if marker then l
      else { l with journalPages := clamp 1024 1048576 v, journalEntries := l.journalEntries + 1 }
  | 18 => if marker then l else { l with dataBase := some v, dataEntries := l.dataEntries + 1 }
  | 19 => if marker then l else { l with dataSize := v, dataEntries := l.dataEntries + 1 }
  | 20 =>
      if marker then l
      else if c < 16 then { l with classes := l.classes.set c (imageClass e) } else l.skip 1
  | _ => l.skip 1

/-- The loader reads entries until the end entry, the last whole entry the memory answers with, or `n` entries
(R183; log 14). -/
def Loaded.read (marker : Bool) : Nat → List Byte → Loaded → Loaded
  | 0, _, l => l
  | n + 1, image, l =>
    let e := image.take 8
    if e.length < 8 then l
    else if field 0 4 e = 0 then l
    else Loaded.read marker n (image.drop 8) (l.apply marker e)

/-- The image is absent: no answer, or a first entry that reads as erased memory (R183). -/
def imageAbsent (image : List Byte) : Bool := image.take 8 == List.replicate 8 0xFF || image.isEmpty

/-- What the Configuration Loader makes of the image: at most 4,096 entries (R183). -/
def loadImage (marker : Bool) (image : List Byte) : Loaded :=
  if imageAbsent image then Loaded.defaults else Loaded.read marker 4096 image Loaded.defaults

/-! ### Initialization (R184) -/

/-- The journal region in force and the entries that count as skipped; none when the default region is needed and does
not fit within the array (R184; log 14). -/
def Loaded.journalRegion (l : Loaded) (array : Nat) : Option (Nat × Nat × Nat) :=
  if l.journalBase + l.journalPages ≤ array then some (l.journalBase, l.journalPages, 0)
  else if 4096 ≤ array then some (0, 4096, l.journalEntries)
  else none

/-- The data region the image asks for, as base and end: the default base is the block after the journal region, a
size of 0 reaches to the end of the array (R184, 13.7). -/
def Loaded.dataAsked (l : Loaded) (array base pages : Nat) : Nat × Nat :=
  let first := l.dataBase.getD (base + pages)
  (first, if l.dataSize = 0 then max first array else first + l.dataSize)

/-- The data region in force, as base, size and skipped entries: a region that overlaps the journal region or leaves the
array is replaced by the default one (R184). -/
def Loaded.dataRegion (l : Loaded) (array base pages : Nat) : Nat × Nat × Nat :=
  let (first, last) := l.dataAsked array base pages
  if last ≤ array && (last ≤ base || base + pages ≤ first || last ≤ first) then (first, last - first, 0)
  else (base + pages, array - (base + pages), l.dataEntries)

/-- Store 0 over the data region (R23). -/
def Store.initial (base size : Nat) : Store where
  base := base
  limit := base + size
  frontier := base
  reservation := 0
  openExtent := none
  state := if size < 2 then .full else .active

/-- The one-time initialization of a blank part: table memory is set, and the marker last. A part that can hold no
journal region is left without the marker (R184, R22, R108, R109). -/
def State.initializeTables (s : State) (l : Loaded) (arrayBlocks : Nat) : State :=
  let array := min arrayBlocks Config.numbersEnd
  match l.journalRegion array with
  | none => s
  | some (base, pages, lostJournal) =>
    let (first, size, lostData) := l.dataRegion array base pages
    { s with
      settings := { s.settings with skipped := s.settings.skipped + lostJournal + lostData }
      storeMap := ⟨first, size, [Store.initial first size], none⟩
      classes := ⟨l.classes, false⟩
      holds := ⟨[], 0⟩
      et := ⟨[], 1, []⟩
      clock := Clock.reset 0
      journal := ⟨base, pages, [], 1, 0, 0, [], 0, none, []⟩
      marker := true }

/-! ### Recovery -/

/-- An ISSUED page was cut off by the reset (R163). -/
def PageEntry.recovered : PageEntry → PageEntry
  | .issued _ _ => .faulted
  | e => e

/-- The journal's recovery: an ISSUED page becomes FAULTED and used, the reached space state is told afresh, and R157 is
judged (R163; log 24). -/
def State.recoverJournal (s : State) : State :=
  let j := s.journal
  let j' := { j with
    pageList := j.pageList.map PageEntry.recovered
    counter := j.counter + if j.pageList.any (·.isIssued) then 1 else 0 }
  let s1 := s.withJournal j'
  match j'.space with
  | 0 => s1
  | 1 => s1.raise .journalLow none
  | 2 => s1.exhaust
  | _ => s1.raise .journalFull (some .cport)

/-- A DISPOSING extent at recovery: QUEUED with its attempts kept, or back to COMMITTED when general journal space is
exhausted (R10, R150). -/
def Extent.recovered (exhausted : Bool) (r : Extent) : Extent :=
  if r.state = .disposing then
    if exhausted then { r with state := .committed, sub := none, attempts := none }
    else { r with sub := some .queued }
  else r

/-- The DISPOSING extents in increasing extent number (R10). -/
def State.disposing (s : State) : List Nat :=
  (s.et.records.filter (fun r => r.state == .disposing)).map (·.number)

/-- The interrupted extents in increasing extent number (R10). -/
def State.interrupted (s : State) : List Nat := (s.et.records.filter (·.writing)).map (·.number)

/-- The queue rebuilt from the DISPOSING extents, with origin DEVICE and no slot; empty when general journal space is
exhausted (R150). -/
def State.rebuiltQueue (s : State) : List QueueEntry :=
  if s.journal.exhausted then [] else s.disposing.map (fun n => ⟨n, .device, none⟩)

/-- The Store Map's recovery: a pending split is dropped, SPLITTING stores become ACTIVE, reservations 0 (R35). -/
def StoreMap.recovered (m : StoreMap) : StoreMap :=
  { m with
    stores := m.stores.map (fun st =>
      { st with reservation := 0, state := if st.isSplitting then .active else st.state })
    split := none }

/-- The recovery of the blocks in their order. The interrupted extents and, behind them, the START record begin to wait
for journal places (R10, R35, R150, R163), places free or not: DESIGN CHOICE (log 30), unsafe. -/
def State.recover (s : State) (cause : Cause) (initialized : Bool) : State :=
  let found := s.journal.buffered
  let s1 := s.recoverJournal
  let used := s1.journal.used
  let s2 := s1.judgePage
  let queue := s2.rebuiltQueue
  let s3 := s2.withEngine ⟨queue, .idle⟩
  let s4 := s3.withEt { s3.et with records := s3.et.records.map (Extent.recovered s2.journal.exhausted) }
  let s5 := s4.withStoreMap s4.storeMap.recovered
  let s6 := s5.withJournal { s5.journal with waits := s5.interrupted.map .recovery ++ [.start] }
  s6.withStartup ⟨cause, initialized, 0, queue.length, found, used⟩

/-- Start-up: the configuration image, initialization if the marker is absent, recovery. Without the marker after that,
start-up goes no further (R184, R185). -/
def State.startUp (s : State) (cause : Cause) (env : StartEnv) : State :=
  let s1 := s.volatileReset .startup
  let l := loadImage s1.marker env.image
  let s2 := (s1.withSettings l.settings).withRouter { s1.router with routes := l.routes }
  let s3 := if s2.marker then s2 else s2.initializeTables l env.arrayBlocks
  if s3.marker then s3.recover cause (!s.marker) else s3

/-! ### The steps -/

/-- Power is applied; start-up begins (R185), whatever the level of RESET_N was before: DESIGN CHOICE (log 27), unsafe. A part
that has power already is left as it is (log 3). -/
def execPowerOn (env : StartEnv) (s : State) : Host.Outcome State Fault Refusal :=
  match s.phase with
  | .off => .next (s.startUp .powerOn env)
  | _ => .next s

/-- RESET_N goes low at a part with power: every volatile item is held at its reset value (R185). A part without power keeps no
level of RESET_N (log 27). -/
def execResetNAssert (s : State) : Host.Outcome State Fault Refusal :=
  if s.live then .next (s.volatileReset .held) else .next s

/-- RESET_N is released: start-up begins (R185). -/
def execResetNRelease (env : StartEnv) (s : State) : Host.Outcome State Fault Refusal :=
  match s.phase with
  | .held => .next (s.startUp .resetN env)
  | _ => .next s

/-- The first interrupted extent that waits is granted its place and becomes VOIDED (R10, R155). -/
def execRecoveryVoid (s : State) : Host.Outcome State Fault Refusal :=
  match s.journal.waits.head? with
  | some (.recovery n) => .next (s.grantPlace (.recovery n))
  | _ => .next s

/-- The START record is entered or counted, once every interrupted extent is VOIDED, and start-up ends (R163). -/
def execStart (s : State) : Host.Outcome State Fault Refusal :=
  match s.journal.waits.head? with
  | some .start => .next (s.grantPlace .start)
  | _ => .next s

/-- Power is lost: only table memory remains (00_scope.md section 4, R22), and no level of RESET_N (log 27). -/
def execPowerLoss (s : State) : Host.Outcome State Fault Refusal := .next (s.volatileReset .off)

end Sys2Proof.Machine
end

