-- ==== Sys2Proof/Machine/Query.lean ====
section
/-! DEFINITION. The kinds that only report: QUERY and FIND (R18 to R21), and STATUS with its seven sections (R174, R36,
R88, R107, R151, R164; layouts of 13.4). -/

namespace Sys2Proof.Machine

/-! ### QUERY and FIND -/

/-- QUERY (R18). -/
def judgeQuery (_c : Ctx) (q : Req) (s : State) : Verdict :=
  match q with
  | .query n =>
    if n = 0 ∨ s.et.next ≤ n then .done .notFound [] s
    else
      match s.extent n with
      | some r => .done .ok (s.extentRecord r) s
      | none => .done .evicted [] s
  | _ => .refuse .badKind []

/-- FIND (R21). -/
def judgeFind (_c : Ctx) (q : Req) (s : State) : Verdict :=
  match q with
  | .find key =>
    if key = 0 then .refuse .badKey []
    else
      match (s.keyOwner key).bind s.extent with
      | some r => .done .ok (s.extentRecord r) s
      | none => .done .notFound [] s
  | _ => .refuse .badKind []

/-! ### STATUS -/

/-- One store in section 0 (13.4). -/
def Store.statusBytes (st : Store) : List Byte :=
  le 4 st.base ++ le 8 st.frontier ++ le 8 st.limit ++ le 1 st.reservation ++ le 1 st.state.code ++ [0, 0] ++
    le 4 (st.openExtent.getD 0)

/-- The ticks a pending split has left (R36). -/
def State.splitLeft (s : State) : Option Nat :=
  s.storeMap.split.map (fun p => p.accepted + Config.splitTicks - s.clock.tick)

/-- Section 0: the store map (R36). -/
def State.statusStores (s : State) : List Byte :=
  le 1 s.storeMap.stores.length ++ le 1 ((s.storeMap.split.map (·.target)).getD 0) ++ orAbsent 2 s.splitLeft ++
    (s.storeMap.stores.map Store.statusBytes).flatten

/-- The number by which `Config.mediaKindCode` is asked for the kind of an operation (R74). -/
def Requester.kindIndex : Requester → Nat
  | .append _ => 0
  | .trailer _ => 0
  | .read _ => 1
  | .verify _ => 1
  | .journalRead _ => 1
  | .scrub _ => 2
  | .journalWrite _ => 3

/-- The kind in flight: a FREE VALUE, since no codes are given for the kinds; absent at a FREE channel (13.4;
log 7). -/
def Media.kindByte (m : Media) : List Byte :=
  match m.channel with
  | some f => [Config.mediaKindCode f.op.requester.kindIndex]
  | none => orAbsent 1 none

/-- The origin of the operation in flight, absent for none (13.4). -/
def Media.originInFlight (m : Media) : Option Master := m.channel.bind (fun f => f.op.origin)

/-- How many operations of an origin wait (R88). -/
def Media.waitingOf (m : Media) (o : Master) : Nat := m.waiting.countP (fun op => op.origin == some o)

/-- The turn order, absent in FIXED mode (R82, R88; log 26). -/
def turnBytes (m : Media) (mode : ArbMode) : List Byte :=
  match mode with
  | .rotating => (m.turn.map (fun o => le 1 (masterCode o))).flatten
  | .fixed => orAbsent 3 none

/-- Section 1: the Media Channel and Media Arbiter (R88). -/
def State.statusMedia (s : State) : List Byte :=
  let m := s.media
  le 1 s.settings.arbiter.code ++ flag m.channel.isSome ++ m.kindByte ++ orAbsent 1 (m.originInFlight.map masterCode) ++
    le 1 (m.waitingOf (.node .a)) ++ le 1 (m.waitingOf (.node .b)) ++ le 1 (m.waitingOf .cport) ++
    flag (m.waiting.any (·.isScrub)) ++ flag (m.waiting.any (·.isPage)) ++ turnBytes m s.settings.arbiter

/-- The ticks since a link's last taken mark, absent without one (R107). -/
def State.sinceMark (s : State) (n : Node) : Option Nat := (s.link n).spacing.map (fun t => s.clock.tick - t)

/-- Section 2: the Archive Clock (R107). -/
def State.statusClock (s : State) : List Byte :=
  let c := s.clock
  le 4 c.seconds ++ le 2 s.day ++ le 1 c.state.code ++ le 1 c.advance ++ le 4 c.retard ++ flag c.skip ++
    le 1 c.streak ++ orAbsent 4 (c.farMark.map (·.reference)) ++ orAbsent 4 (c.farMark.map (·.receipt)) ++
    le 4 c.holdover ++ le 4 s.settings.holdoverTime ++ le 8 c.tick ++ orAbsent 4 (s.sinceMark .a) ++
    orAbsent 4 (s.sinceMark .b)

/-- The entry of the head, while the engine has one (9.3). -/
def Engine.head (e : Engine) : Option QueueEntry :=
  match e.stage with
  | .idle => none
  | _ => e.queue.head?

/-- Section 3: the Disposition Engine (R151). -/
def State.statusEngine (s : State) : List Byte :=
  let head := s.engine.head
  let r := head.bind (fun e => s.extent e.ext)
  le 2 s.engine.queue.length ++ le 1 s.engine.stage.code ++ orAbsent 4 (head.map (·.ext)) ++
    orAbsent 1 (r.bind (fun x => x.sub.map SubState.code)) ++ orAbsent 1 (r.bind (·.attempts)) ++
    orAbsent 1 (head.map (fun e => s.readerCount e.ext)) ++ flag s.journal.exhausted

/-- A JOURNAL_WRITE waits or is in flight (R164). -/
def State.pageWrite (s : State) : Bool :=
  s.media.waiting.any (·.isPage) || s.media.channel.any (fun f => f.op.isPage)

/-- Section 4: the Disposition Journal (R164). -/
def State.statusJournal (s : State) : List Byte :=
  let j := s.journal
  le 8 j.nextSeq ++ le 8 j.flushed ++ le 1 j.buffered ++ le 4 j.counter ++ le 4 j.used ++ le 4 j.pages ++
    le 4 (j.pageList.countP (·.isFaulted)) ++ le 1 j.space ++ flag s.pageWrite ++
    orAbsent 8 (j.buffer.head?.map (·.entered)) ++ le 4 j.overflow ++ flag j.mark.isSome ++
    orAbsent 4 (j.mark.map (·.count)) ++ le 2 s.settings.partialTime

/-- Section 5: the Extent Table's counts, the latch and the Hold List (R174). -/
def State.statusTables (s : State) : List Byte :=
  le 2 s.et.records.length ++ le 8 s.et.next ++ flag s.classes.fixed ++ le 1 s.holds.list.length ++
    le 4 s.holds.revision

/-- The number by which `Config.slotStateCode` is asked for the state of a slot (R168). -/
def Slot.stateIndex : Slot → Nat
  | .free => 0
  | .running _ _ => 1
  | .finished _ _ => 2
  | .detached _ => 3

/-- A link in section 6: up, window, slots by state (13.4). -/
def LinkState.statusBytes (l : LinkState) : List Byte :=
  flag l.up ++ windowBytes6 l ++ slotCounts l.slots
where
  /-- Base, limit and whether the window is open. -/
  windowBytes6 (l : LinkState) : List Byte := le 6 l.base ++ le 6 l.limit ++ flag (decide (l.base ≤ l.limit))
  /-- How many slots are FREE, RUNNING, FINISHED and DETACHED. -/
  slotCounts (slots : List Slot) : List Byte :=
    ((List.range 4).map (fun k => le 1 (slots.countP (fun v => v.stateIndex == k)))).flatten

/-- A slot of the asker in section 6: its state, a FREE VALUE since no codes are given, and the tag and kind of a
RUNNING or FINISHED one (13.4; log 7). -/
def Slot.statusBytes (v : Slot) : List Byte :=
  let held : Option Held := match v with
    | .running h _ => some h
    | .finished h _ => some h
    | _ => none
  [Config.slotStateCode v.stateIndex] ++ orAbsent 1 (held.map (fun h => h.tag.toNat)) ++
    orAbsent 1 (held.map (fun h => field 2 1 h.capsule))

/-- Section 6: the links, and the slots of the link or port that asked (R174). -/
def State.statusLinks (s : State) (m : Master) : List Byte :=
  s.linkA.statusBytes ++ s.linkB.statusBytes ++ ((s.slots m).map Slot.statusBytes).flatten

/-- One section; none for a number above 6 (R174). -/
def State.section (s : State) (m : Master) : Nat → Option (List Byte)
  | 0 => some s.statusStores
  | 1 => some s.statusMedia
  | 2 => some s.statusClock
  | 3 => some s.statusEngine
  | 4 => some s.statusJournal
  | 5 => some s.statusTables
  | 6 => some (s.statusLinks m)
  | _ => none

/-- STATUS (R174). -/
def judgeStatus (c : Ctx) (q : Req) (s : State) : Verdict :=
  match q with
  | .status n =>
    match s.section c.master n with
    | some bytes => .done .ok bytes s
    | none => .refuse .badRange []
  | _ => .refuse .badKind []

/-! ### The steps -/

/-- QUERY (R18). -/
def execQuery (h : HandOver) (s : State) : Host.Outcome State Fault Refusal :=
  .next (s.handOver h .query judgeQuery)

/-- FIND (R21). -/
def execFind (h : HandOver) (s : State) : Host.Outcome State Fault Refusal :=
  .next (s.handOver h .find judgeFind)

/-- STATUS (R174). -/
def execStatus (h : HandOver) (s : State) : Host.Outcome State Fault Refusal :=
  .next (s.handOver h .status judgeStatus)

end Sys2Proof.Machine
end

