-- ==== Sys2Proof/Machine/Stores.lean ====
section
/-! DEFINITION. The split of the stores (Chapter 2): SPLIT (R30), its application (R32) and its timeout (R33). -/

namespace Sys2Proof.Machine

/-- A store that cannot be split: FULL, or with less than 8,192 free blocks (R30). -/
def Store.tooSmall (st : Store) : Bool := st.state == .full || decide (st.limit < st.frontier + Config.splitFloor)

/-- A SPLIT is taken: pending, and every store SPLITTING (R30). -/
def State.beginSplit (s : State) (target slot : Nat) : State :=
  s.withStoreMap { s.storeMap with
    stores := s.storeMap.stores.map (fun st => { st with state := .splitting })
    split := some ⟨target, s.clock.tick, slot⟩ }

/-- The checks of SPLIT in the order of R30, then its slot (R166). -/
def judgeSplit (c : Ctx) (q : Req) (s : State) : Verdict :=
  match q with
  | .split target =>
    if target ≠ 2 * s.storeMap.stores.length ∨ 4 ≤ s.storeMap.stores.length then .refuse .splitShape []
    else if s.storeMap.split.isSome then .refuse .storeBusy []
    else if s.storeMap.stores.any (·.tooSmall) then .refuse .tooSmall []
    else if s.journal.exhausted then .refuse .journalFull []
    else
      match c.slot with
      | none => .refuse .slotsFull []
      | some i => .take i .split [] (s.beginSplit target i)
  | _ => .refuse .badKind []

/-- The pending split has waited 600 ticks (R33). -/
def State.splitDue (s : State) : Bool :=
  match s.storeMap.split with
  | some p => decide (p.accepted + Config.splitTicks ≤ s.clock.tick)
  | none => false

/-- SPLIT (R30). One that is taken while the stores are quiet asks for its record's place in the same step, once its slot
runs (R32). -/
def execSplit (h : HandOver) (s : State) : Host.Outcome State Fault Refusal :=
  let t := s.handOver h .split judgeSplit
  .next (if s.storeMap.split.isSome then t else t.askSplit.judgeSince t)

/-- The pending split times out (R33). -/
def execSplitTimeout (s : State) : Host.Outcome State Fault Refusal :=
  if s.splitDue then .next (s.failSplit .splitTimeout) else .next s

/-- The place of a SPLIT_DONE record that waits is granted, and the split applies (R32). -/
def execSplitApply (s : State) : Host.Outcome State Fault Refusal := .next (s.grantPlace .splitDone)

end Sys2Proof.Machine
end

