-- ==== Sys2Proof/Machine/Time.lean ====
section
/-! DEFINITION. Archive time (Chapter 6): the clock at a tick (R89, R98, R99), holdover (R100), time marks (R94 to R97), ADOPT
(R101, R102), the coalesced clock record (R156), and the partial-page time (R157). -/

namespace Sys2Proof.Machine

/-! ### The tick -/

/-- The step on archive seconds at a tick, by the first row that applies (R98, R99). -/
def Clock.slew (c : Clock) : Clock :=
  if Config.maxSeconds ≤ c.seconds then c
  else if 0 < c.advance then
    { c with seconds := min Config.maxSeconds (c.seconds + 2), advance := c.advance - 1 }
  else if 0 < c.retard then
    if c.skip then { c with retard := c.retard - 1, skip := false }
    else { c with seconds := c.seconds + 1, skip := true }
  else { c with seconds := c.seconds + 1 }

/-- The holdover counter at a tick (R100). -/
def Clock.age (c : Clock) (holdoverTime : Nat) : Clock :=
  if c.holdover < holdoverTime then { c with holdover := c.holdover + 1 } else c

/-- The tick count after a tick; after the last value it can hold, a FREE VALUE (R89; log 7). -/
def State.nextTick (s : State) : Nat :=
  if s.clock.tick < Config.maxTick then s.clock.tick + 1 else (Config.freeTick s.freeCount).toNat

/-- One tick: tick count, archive seconds, holdover counter (R89, R98, R100). -/
def State.tickClock (s : State) : State :=
  let c := { (s.clock.slew.age s.settings.holdoverTime) with tick := s.nextTick }
  (s.withClock c).withFreeCount (if s.clock.tick < Config.maxTick then s.freeCount else s.freeCount + 1)

/-- A LOCKED clock whose holdover counter has reached the holdover time becomes HOLDOVER (R100, R103). -/
def State.judgeHoldover (s : State) : State :=
  if s.clock.state == .locked && decide (s.settings.holdoverTime ≤ s.clock.holdover) then
    s.changeClock { s.clock with state := .holdover }
  else s

/-! ### Time marks -/

/-- The offset of a mark: reference seconds minus archive seconds (R95). -/
def markOffset (reference seconds : Nat) : Int := (reference : Int) - (seconds : Int)

/-- An in-range offset (R95). -/
def inRangeOffset (d : Int) : Bool := decide (-30 ≤ d) && decide (d ≤ 30)

/-- The clock after an in-range mark of offset `d` (R96). -/
def Clock.onNear (c : Clock) (d : Int) : Clock :=
  { c with
    advance := if 2 ≤ d then d.toNat else 0
    retard := if d ≤ -2 then (-d).toNat else 0
    skip := false
    streak := 0
    farMark := none
    holdover := 0
    state := .locked }

/-- The clock after a far mark (R97). -/
def Clock.onFar (c : Clock) (reference : Nat) : Clock :=
  let streak := min 3 (c.streak + 1)
  { c with
    streak := streak
    farMark := some ⟨reference, c.seconds⟩
    state := if streak = 3 then .drift else c.state }

/-- The clock after a taken mark (R95). -/
def Clock.onMark (c : Clock) (reference : Nat) : Clock :=
  if inRangeOffset (markOffset reference c.seconds) then c.onNear (markOffset reference c.seconds)
  else c.onFar reference

/-- The fields of an absorbed mark's receipt (13.2). -/
def absorbedFields (c : Clock) : List Byte := le 4 c.seconds ++ le 1 c.state.code

/-- The fields of a taken mark's receipt: offset, class, and the clock after the mark (13.2). -/
def markFields (d : Int) (c : Clock) : List Byte :=
  leInt 8 d ++ flag (!inRangeOffset d) ++ le 4 c.seconds ++ le 1 c.advance ++ le 4 c.retard ++ le 1 c.streak ++
    le 1 c.state.code

/-- The link's last taken mark is less than 16 ticks old (R94). -/
def State.spaced (s : State) (n : Node) : Bool :=
  match (s.link n).spacing with
  | some t => decide (s.clock.tick < t + Config.markTicks)
  | none => false

/-- TIME: absorbed by spacing, or taken (R94). -/
def judgeTime (c : Ctx) (q : Req) (s : State) : Verdict :=
  match q, c.master with
  | .time reference, .node n =>
    if s.spaced n then .done .absorbed (absorbedFields s.clock) s
    else
      let clock := s.clock.onMark reference
      .done .ok (markFields (markOffset reference s.clock.seconds) clock)
        ((s.withLink n { s.link n with spacing := some s.clock.tick }).changeClock clock)
  | _, _ => .refuse .badKind []

/-! ### ADOPT -/

/-- Archive seconds after ADOPT of an offset (R102). -/
def adoptSeconds (seconds : Nat) (d : Int) : Nat :=
  if 0 < d then min Config.maxSeconds (seconds + d.toNat) else seconds

/-- The pending retard ADOPT of an offset sets (R102). -/
def adoptRetard (d : Int) : Nat := (-d).toNat

/-- The clock after ADOPT of an offset (R102). -/
def Clock.adopted (c : Clock) (d : Int) : Clock :=
  { c with
    seconds := adoptSeconds c.seconds d
    advance := 0
    retard := adoptRetard d
    skip := false
    streak := 0
    farMark := none
    holdover := 0
    state := .locked }

/-- The fields of an ADOPT receipt (13.2). -/
def adoptFields (d : Int) (seconds retard : Nat) : List Byte := leInt 8 d ++ le 4 seconds ++ le 4 retard

/-- The far mark ADOPT would act on, in DRIFT (R101, check 1). -/
def Clock.adoptable (c : Clock) : Option FarMark := if c.state = .drift then c.farMark else none

/-- ADOPT is taken: the clock, CLOCK_STATE, the CLOCK_ADOPTED record (R102, R103; log 25). -/
def State.adopt (s : State) (o : Origin) (m : FarMark) (d : Int) : State :=
  let s1 := (s.withClock (s.clock.adopted d)).raise .clockState none
  (s1.record o (.clockAdopted s.clock.seconds s1.clock.seconds d (adoptRetard d) m)).judgePage

/-- The checks of ADOPT in the order of R101. -/
def judgeAdopt (c : Ctx) (q : Req) (s : State) : Verdict :=
  match q with
  | .adopt =>
    match s.clock.adoptable with
    | none => .refuse .clockNotDrift []
    | some m =>
      let d := markOffset m.reference m.receipt
      if d < -(Config.backwardLimit : Int) then .refuse .stepRange []
      else if s.journal.backlog then .refuse .journalBacklog []
      else if s.journal.full then .refuse .journalFull []
      else
        .done .ok (adoptFields d (adoptSeconds s.clock.seconds d) (adoptRetard d)) (s.adopt c.origin m d)
  | _ => .refuse .badKind []

/-! ### The steps -/

/-- TIME (R94). -/
def execTime (h : HandOver) (s : State) : Host.Outcome State Fault Refusal :=
  .next (s.handOver h .time judgeTime)

/-- ADOPT (R101). -/
def execAdopt (h : HandOver) (s : State) : Host.Outcome State Fault Refusal :=
  .next (s.handOver h .adopt judgeAdopt)

/-- A LOCKED clock whose holdover counter is at the holdover time becomes HOLDOVER; the tick makes this judgement (R100). -/
def execHoldover (s : State) : Host.Outcome State Fault Refusal := if s.live then .next s.judgeHoldover else .next s

/-- The oldest buffered record has waited the partial-page time (R157). -/
def execPartialPageTime (s : State) : Host.Outcome State Fault Refusal :=
  if s.live && s.pageAged then .next s.judgePage else .next s

/-- A place is granted to the unrecorded-change mark, when it is set and a place is free (R156). -/
def execCoalescedClockState (s : State) : Host.Outcome State Fault Refusal :=
  if s.live && s.journal.mark.isSome && s.journal.takesNow then .next s.grantMark.judgePage else .next s

end Sys2Proof.Machine
end

