-- ==== Sys2Proof/Machine/Journal.lean ====
section
/-! DEFINITION. The Disposition Journal's own steps (Chapter 10): JOURNAL_READ (R162) and the completions of page writes
(R159, R161). Records, places and page issue stand in Machine/Ops.lean and Machine/Places.lean. -/

namespace Sys2Proof.Machine

/-! ### JOURNAL_READ -/

/-- The first sequence of a WRITTEN page. -/
def PageEntry.writtenFirst : PageEntry → Option Nat
  | .written first _ => some first
  | _ => none

/-- The page that holds a sequence below the flushed mark: the WRITTEN entry with the greatest page number whose first
sequence is not above it, with that first sequence (R162). -/
def Journal.pageOf (j : Journal) (seq : Nat) : Option (Nat × Nat) :=
  (j.pageList.zipIdx.reverse).findSome? (fun (e, k) =>
    match e.writtenFirst with
    | some first => if first ≤ seq then some (k, first) else none
    | none => none)

/-- A record of the buffer by its sequence. -/
def Journal.bufferedRecord (j : Journal) (seq : Nat) : Option Record :=
  (j.buffer.find? (fun e => e.record.seq == seq)).map (·.record)

/-- The page number of an answer from the buffer (13.2). -/
def noPage : Nat := 4294967295

/-- The FETCH of a page (R162). -/
def journalOp (ref : SlotRef) (j : Journal) (page : Nat) : MediaOp where
  requester := .journalRead ref
  origin := some .cport
  first := j.base + page
  count := 1

/-- JOURNAL_READ against the buffer and the page list (R162). -/
def judgeJournalRead (c : Ctx) (q : Req) (s : State) : Verdict :=
  match q with
  | .journalRead seq =>
    if seq = 0 ∨ s.journal.nextSeq ≤ seq then .done .notFound (le 8 s.journal.nextSeq) s
    else
      match s.journal.bufferedRecord seq with
      | some r => .done .ok (le 4 noPage ++ r.bytes) s
      | none =>
        match c.slot with
        | none => .refuse .slotsFull []
        | some i =>
          match s.journal.pageOf seq with
          | none => .done .notFound (le 8 s.journal.nextSeq) s
          | some (page, _) =>
            .take i (.journalRead seq page) [] (s.place (journalOp ⟨c.master, i⟩ s.journal page))
  | _ => .refuse .badKind []

/-- The 128 bytes of a record slot of a page (10.3). -/
def pageSlot (page : List Byte) (k : Nat) : List Byte := (page.drop (128 * k)).take 128

/-- The first sequence of a page as the page list has it. -/
def Journal.firstOf (j : Journal) (page : Nat) : Nat := ((j.pageList[page]?).bind (·.writtenFirst)).getD 0

/-- A page is delivered to the page buffer of a CPORT slot (R74, R162, R177). -/
def State.fillPage (s : State) (i : Nat) (bytes : List Byte) : State :=
  s.withCport { s.cport with pageBuffers := s.cport.pageBuffers.set i bytes }

/-- The journal's reaction to the FETCH of a page: with OK the page is delivered to the slot's page buffer, and the record is
cut from its place in the page; otherwise MEDIA_FAULT (R162). -/
def State.pageFetched (s : State) (ref : SlotRef) (page : Option (List Byte)) : State :=
  match s.slot ref with
  | some (.running _ (.journalRead seq k)) =>
    match page with
    | some bytes => (s.fillPage ref.index bytes).endSlot ref ⟨.ok, le 4 k ++ pageSlot bytes (seq - s.journal.firstOf k)⟩
    | none => s.endSlot ref ⟨.mediaFault, le 8 seq ++ le 4 k⟩
  | _ => s

/-! ### Page writes -/

/-- The ISSUED entry becomes WRITTEN (R159). -/
def PageEntry.finish : PageEntry → PageEntry
  | .issued first n => .written first n
  | e => e

/-- The ISSUED entry becomes FAULTED (R159). -/
def PageEntry.fail : PageEntry → PageEntry
  | .issued _ _ => .faulted
  | e => e

/-- How many records the page in flight carries (R158). -/
def Journal.carried (j : Journal) : Nat :=
  (j.pageList.findSome? (fun e => match e with
    | .issued _ n => some n
    | _ => none)).getD 0

/-- The page was written: its records leave the buffer (R159). -/
def Journal.pageWritten (j : Journal) : Journal :=
  { j with
    pageList := j.pageList.map PageEntry.finish, counter := j.counter + 1, buffer := j.buffer.drop j.carried }

/-- The page faulted: it is consumed, and its records stay (R159). -/
def Journal.pageFaulted (j : Journal) : Journal :=
  { j with pageList := j.pageList.map PageEntry.fail, counter := j.counter + 1 }

/-- In the completion step in which the counter reaches P, JOURNAL_FULL is raised (R161). -/
def State.judgeFull (s : State) : State :=
  if s.journal.full then s.raise .journalFull (some .cport) else s

/-- The journal's reaction to a page write with OK: the freed places are granted, and R157 is judged, once and after all of
them: DESIGN CHOICE (log 31), unsafe (R155, R159, R161). -/
def State.pageDone (s : State) : State := (s.withJournal s.journal.pageWritten).judgeFull.grantPlaces.judgePage

/-- The journal's reaction to a page write with MEDIA_ERROR: no place is freed; in a region now entirely full the
waiting requests are counted and go on (R159, R161). -/
def State.pageFault (s : State) : State :=
  let s1 := (s.withJournal s.journal.pageFaulted).judgeFull
  (if s1.journal.full then s1.grantPlaces else s1).judgePage

/-! ### The steps -/

/-- JOURNAL_READ (R162). -/
def execJournalRead (h : HandOver) (s : State) : Host.Outcome State Fault Refusal :=
  .next (s.handOver h .journalRead judgeJournalRead)

/-- The FETCH of a JOURNAL_READ completes: with the page delivered whole, or with MEDIA_ERROR (R162, R75). -/
def execJournalReadFetchDone (page : Option (List Byte)) (s : State) : Host.Outcome State Fault Refusal :=
  match s.answering with
  | some ⟨.journalRead ref, _, _, blocks⟩ =>
      if page.all (fun bytes => bytes.length == blocks * Config.blockBytes) then .next (s.pageFetched ref page).complete
      else .next s
  | _ => .next s

/-- A page write completes with OK (R159). -/
def execJournalWriteOk (s : State) : Host.Outcome State Fault Refusal :=
  match s.answering with
  | some ⟨.journalWrite _, _, _, _⟩ => .next s.pageDone.complete
  | _ => .next s

/-- A page write completes with MEDIA_ERROR (R159). -/
def execJournalWriteMediaError (s : State) : Host.Outcome State Fault Refusal :=
  match s.answering with
  | some ⟨.journalWrite _, _, _, _⟩ => .next s.pageFault.complete
  | _ => .next s

end Sys2Proof.Machine
end

