-- ==== Sys2Proof/Machine/Timers.lean ====
section
/-! DEFINITION. The tick, with all that becomes due in its step (R89, R98, R100, R38, R157), and the limits on answers from
outside: the media operation that the array leaves unanswered for 60 ticks
(R75), and the DMA read request unanswered by the second tick (R172). -/

namespace Sys2Proof.Machine

/-- What a tick brings to its end: HOLDOVER, then the open timeouts of the stores in order, then the partial-page time
(R100, R38, R54, R157; log 2). R157 is judged after the records of each of them and once more at the end: DESIGN CHOICE
(log 31), unsafe. -/
def State.judgeTick (s : State) : State := ((List.range 4).foldl State.judgeTimer s.judgeHoldover).judgePage

/-- A tick: the clock moves, and what has become due takes place in the same step (R89, R98, R100, R38, R157). -/
def execTick (s : State) : Host.Outcome State Fault Refusal :=
  if s.live then .next s.tickClock.judgeTick else .next s

/-- What each requester does at MEDIA_ERROR (R86). -/
def State.mediaError (s : State) (op : MediaOp) : State :=
  match op.requester with
  | .append i => s.request (.mediaFault i)
  | .trailer i => s.request (.mediaFault i)
  | .read ref => s.readFault ref
  | .verify ref => s.verifyFault ref op.count
  | .journalRead ref => s.pageFetched ref none
  | .scrub n => s.scrubFault n
  | .journalWrite _ => s.pageFault

/-- The 60th tick after the issue has come without an answer: the operation completes with MEDIA_ERROR (R75). -/
def execMediaAnswerLimit (s : State) : Host.Outcome State Fault Refusal :=
  match s.media.channel with
  | some f => if f.issued + Config.mediaTicks ≤ s.clock.tick then .next (s.mediaError f.op).complete else .next s
  | none => .next s

/-- A read request sent at tick `sent` of a transfer that began at tick `began` is unanswered at the second tick
(R172). -/
def State.unanswered (s : State) (began : Option Nat) (sent : Nat) : Bool :=
  match began with
  | some t => decide (t ≤ sent) && decide (sent + Config.dmaTicks ≤ s.clock.tick)
  | none => false

/-- A DMA read request goes unanswered, and its transfer fails: an APPEND's fetch, or the read that ends a READ's
transfer, all of whose bytes have been placed by then (R172, R44, R66; log 17). -/
def execDmaReadTimeout (n : Node) (slot sent : Nat) (s : State) : Host.Outcome State Fault Refusal :=
  match s.slot ⟨.node n, slot⟩ with
  | some (.running _ (.append w)) =>
      if s.unanswered w.dma sent then .next (s.fetchFault ⟨.node n, slot⟩ w.ext) else .next s
  | some (.running _ (.read w)) =>
      if s.unanswered w.dma sent then .next (s.readDmaFault n slot w w.buffer.length) else .next s
  | _ => .next s

end Sys2Proof.Machine
end

