-- ==== Sys2Proof/Machine/Dispatch.lean ====
section
/-! DEFINITION. One arm per command of spec/opcode_table.json, in the table's order. -/

namespace Sys2Proof.Machine

/-- The effect of a command on everything but the queue. -/
def exec (i : Instr) (s : State) : Host.Outcome State Fault Refusal :=
  match i with
  | .powerOn env => Sys2Proof.Machine.execPowerOn env s
  | .resetNAssert => Sys2Proof.Machine.execResetNAssert s
  | .resetNRelease env => Sys2Proof.Machine.execResetNRelease env s
  | .recoveryVoid => Sys2Proof.Machine.execRecoveryVoid s
  | .start => Sys2Proof.Machine.execStart s
  | .linkReset n => Sys2Proof.Machine.execLinkReset n s
  | .linkUp n => Sys2Proof.Machine.execLinkUp n s
  | .msiEnableWrite n enable => Sys2Proof.Machine.execMsiEnableWrite n enable s
  | .capsuleWindowWrite n offset bytes => Sys2Proof.Machine.execCapsuleWindowWrite n offset bytes s
  | .noCapsule r => Sys2Proof.Machine.execNoCapsule r s
  | .badKind h => Sys2Proof.Machine.execBadKind h s
  | .cportPartialCapsule addr bytes => Sys2Proof.Machine.execCportPartialCapsule addr bytes s
  | .cportReceiptRead addr len => Sys2Proof.Machine.execCportReceiptRead addr len s
  | .roleChange => Sys2Proof.Machine.execRoleChange s
  | .openExtent h => Sys2Proof.Machine.execOpen h s
  | .append h => Sys2Proof.Machine.execAppend h s
  | .close h => Sys2Proof.Machine.execClose h s
  | .abandon h => Sys2Proof.Machine.execAbandon h s
  | .read h => Sys2Proof.Machine.execRead h s
  | .verify h => Sys2Proof.Machine.execVerify h s
  | .query h => Sys2Proof.Machine.execQuery h s
  | .find h => Sys2Proof.Machine.execFind h s
  | .status h => Sys2Proof.Machine.execStatus h s
  | .window h => Sys2Proof.Machine.execWindow h s
  | .time h => Sys2Proof.Machine.execTime h s
  | .events h => Sys2Proof.Machine.execEvents h s
  | .dispose h => Sys2Proof.Machine.execDispose h s
  | .holdPlace h => Sys2Proof.Machine.execHoldPlace h s
  | .holdLift h => Sys2Proof.Machine.execHoldLift h s
  | .holdList h => Sys2Proof.Machine.execHoldList h s
  | .extend h => Sys2Proof.Machine.execExtend h s
  | .classSet h => Sys2Proof.Machine.execClassSet h s
  | .classGet h => Sys2Proof.Machine.execClassGet h s
  | .policyFix h => Sys2Proof.Machine.execPolicyFix h s
  | .adopt h => Sys2Proof.Machine.execAdopt h s
  | .route h => Sys2Proof.Machine.execRoute h s
  | .split h => Sys2Proof.Machine.execSplit h s
  | .journalRead h => Sys2Proof.Machine.execJournalRead h s
  | .tick => Sys2Proof.Machine.execTick s
  | .openTimeoutDue store => Sys2Proof.Machine.execOpenTimeoutDue store s
  | .openTimeout store => Sys2Proof.Machine.execOpenTimeout store s
  | .splitTimeout => Sys2Proof.Machine.execSplitTimeout s
  | .holdover => Sys2Proof.Machine.execHoldover s
  | .partialPageTime => Sys2Proof.Machine.execPartialPageTime s
  | .mediaAnswerLimit => Sys2Proof.Machine.execMediaAnswerLimit s
  | .dmaReadTimeout n slot sent => Sys2Proof.Machine.execDmaReadTimeout n slot sent s
  | .fetchComplete n slot fragments => Sys2Proof.Machine.execFetchComplete n slot fragments s
  | .fetchFailed n slot => Sys2Proof.Machine.execFetchFailed n slot s
  | .appendProgramOk => Sys2Proof.Machine.execAppendProgramOk s
  | .appendProgramMediaError => Sys2Proof.Machine.execAppendProgramMediaError s
  | .trailerOk => Sys2Proof.Machine.execTrailerOk s
  | .trailerMediaError => Sys2Proof.Machine.execTrailerMediaError s
  | .mediaFaultVoid store => Sys2Proof.Machine.execMediaFaultVoid store s
  | .readFetchOk data => Sys2Proof.Machine.execReadFetchOk data s
  | .readFetchMediaError => Sys2Proof.Machine.execReadFetchMediaError s
  | .readDmaComplete n slot => Sys2Proof.Machine.execReadDmaComplete n slot s
  | .readDmaFailed n slot placed => Sys2Proof.Machine.execReadDmaFailed n slot placed s
  | .verifyFetchOk data => Sys2Proof.Machine.execVerifyFetchOk data s
  | .verifyFetchMediaError => Sys2Proof.Machine.execVerifyFetchMediaError s
  | .integrityRecord slot => Sys2Proof.Machine.execIntegrityRecord slot s
  | .journalReadFetchDone page => Sys2Proof.Machine.execJournalReadFetchDone page s
  | .headTake => Sys2Proof.Machine.execHeadTake s
  | .readersDrained => Sys2Proof.Machine.execReadersDrained s
  | .scrubCompleteOk => Sys2Proof.Machine.execScrubCompleteOk s
  | .disposed => Sys2Proof.Machine.execDisposed s
  | .scrubMediaError => Sys2Proof.Machine.execScrubMediaError s
  | .disposalFailed => Sys2Proof.Machine.execDisposalFailed s
  | .splitApply => Sys2Proof.Machine.execSplitApply s
  | .journalWriteOk => Sys2Proof.Machine.execJournalWriteOk s
  | .journalWriteMediaError => Sys2Proof.Machine.execJournalWriteMediaError s
  | .coalescedClockState => Sys2Proof.Machine.execCoalescedClockState s
  | .cmodeSample low => Sys2Proof.Machine.execCmodeSample low s
  | .powerLoss => Sys2Proof.Machine.execPowerLoss s

end Sys2Proof.Machine
end

