-- ==== Sys2Proof/Safety.lean ====
section
/-! DEFINITION. What counts as a safe run of the part, in the terms the statements use: a capsule that reaches its
owner, what a command leaves alone, the invariants of the blocks, and the laws of the device that hold from one state
to the next. -/

namespace Sys2Proof.Machine

/-! ### Capsules that reach their owner -/

/-- A capsule was handed over by `h` and passes the steps of R166 and R177 before the owner's checks: the part takes
capsules, the kind is known and taken from its origin, no slot holds the tag, and the fragment checks pass. -/
structure Reaches (s : State) (h : HandOver) (c : Capsule) (q : Req) (frags : List Fragment) : Prop where
  received : s.received h = some c
  taking : s.taking = true
  shape : ∃ n, c.shape = some (q.kind, n) ∧ c.fragments q.kind n = frags
  request : c.request q.kind = q
  allowed : q.kind.takenFrom c.master s.cport.role = true
  fresh : s.tagSlot c.master c.tag = none
  fragments : s.fragmentCheck c.master q frags = none

/-- The state after a capsule is answered: its hand-over clears the link's mark, and its receipt is formed (R165,
R176). -/
def State.answered (s : State) (c : Capsule) (d : Disposition) (code : Code) (slot : Option Nat) (fields : List Byte) :
    State :=
  (s.takeMark c.master).respond c.master (c.reply s.cport.role d code slot fields)

/-- The state after an immediate capsule is DONE: `u` with its receipt (R166 step 8). -/
def State.finish (u : State) (c : Capsule) (role : Role) (code : Code) (fields : List Byte) : State :=
  u.respond c.master (c.reply role .done code none fields)

/-- The slot a taken capsule is placed in (R168). -/
def Capsule.runs (c : Capsule) (w : Work) : Slot := .running ⟨c.tag, c.body⟩ w

/-- The state after a timed capsule is TAKEN into slot `i`: `u` with the slot RUNNING and the receipt (R166 step 8,
R168). -/
def State.begin (u : State) (c : Capsule) (role : Role) (i : Nat) (w : Work) (fields : List Byte) : State :=
  (u.setSlot ⟨c.master, i⟩ (c.runs w)).respond c.master (c.reply role .taken .ok (some i) fields)

/-- The command of the row of a capsule kind. -/
def Kind.command : Kind → HandOver → Instr
  | .openExtent => .openExtent
  | .append => .append
  | .close => .close
  | .abandon => .abandon
  | .read => .read
  | .verify => .verify
  | .query => .query
  | .find => .find
  | .status => .status
  | .window => .window
  | .time => .time
  | .events => .events
  | .dispose => .dispose
  | .holdPlace => .holdPlace
  | .holdLift => .holdLift
  | .holdList => .holdList
  | .extend => .extend
  | .classSet => .classSet
  | .classGet => .classGet
  | .policyFix => .policyFix
  | .adopt => .adopt
  | .route => .route
  | .split => .split
  | .journalRead => .journalRead

/-- The receipt last formed for a master. -/
def State.receiptOf (s : State) : Master → Option Receipt
  | .node n => (s.link n).receipt
  | .cport => s.cport.last.map (·.receipt)

/-! ### Invariants -/

/-- Layout: a link's window has 512 bytes and it has eight slots (R165, R168). -/
def LinkState.whole (l : LinkState) : Prop := l.window.length = 512 ∧ l.slots.length = 8

/-- Layout: the links, two CPORT slots with a page buffer each, four write units, sixteen classes, eleven event classes. -/
structure State.Whole (s : State) : Prop where
  linkA : s.linkA.whole
  linkB : s.linkB.whole
  cport : s.cport.slots.length = 2
  buffers : s.cport.pageBuffers.length = 2
  units : s.write.length = 4
  classes : s.classes.entries.length = 16
  routes : s.router.routes.length = 11

/-- The settings lie in their ranges (R183). -/
structure Settings.Sound (c : Settings) : Prop where
  address : 0x08 ≤ c.cportAddr.toNat ∧ c.cportAddr.toNat ≤ 0x77
  samples : 2 ≤ c.cmodeN ∧ c.cmodeN ≤ 15
  openTime : 10 ≤ c.openTimeout ∧ c.openTimeout ≤ 3600
  holdover : 60 ≤ c.holdoverTime ∧ c.holdoverTime ≤ 86400
  partialPage : 10 ≤ c.partialTime ∧ c.partialTime ≤ 600

/-- The clock's values lie in their ranges, and pending advance and pending retard are never both above 0 (R90,
R92). -/
structure Clock.Sound (c : Clock) : Prop where
  seconds : c.seconds ≤ Config.maxSeconds
  advance : c.advance ≤ 30
  retard : c.retard ≤ 86400
  exclusive : c.advance = 0 ∨ c.retard = 0
  streak : c.streak ≤ 3
  holdover : c.holdover ≤ 86400

/-- The buffered records from `seq` on: sequences rise by 1 up to the next sequence, each check is formed over its
predecessor's, archive seconds do not decrease, and the newest record's check is the last check (R152, R153). -/
def Chain (next : Nat) (last : Word32) (now : Nat) : List BufEntry → Prop
  | [] => True
  | [e] => e.record.seq + 1 = next ∧ e.record.check = last ∧ e.record.seconds ≤ now
  | a :: b :: l =>
    b.record.seq = a.record.seq + 1 ∧ a.record.seconds ≤ b.record.seconds ∧
      b.record.check = chainedCheck a.record.check b.record.seq b.record.seconds b.record.origin b.record.subject ∧
      Chain next last now (b :: l)

/-- The journal's buffer: at most 64 records, chained (R152, R153, R154). -/
structure State.JournalSound (s : State) : Prop where
  places : s.journal.buffer.length ≤ Config.bufferPlaces
  chain : Chain s.journal.nextSeq s.journal.lastCheck s.clock.seconds s.journal.buffer

/-- The hold list at the archive seconds `now`: at most 64 holds, their matter numbers not 0 and distinct, in the order in
which they were placed (R121). -/
structure HoldList.Sound (l : HoldList) (now : Nat) : Prop where
  length : l.list.length ≤ Config.maxHolds
  matters : (l.list.map (·.matter)).Nodup
  named : ∀ h ∈ l.list, h.matter ≠ 0
  order : (l.list.map (·.placed)).Pairwise (· ≤ ·)
  past : ∀ h ∈ l.list, h.placed ≤ now

/-- The extent table: at most 32,768 records, in strictly increasing numbers from 1 up, all below the next extent
number (R11, R15). -/
structure ExtentTable.Sound (t : ExtentTable) : Prop where
  next : 1 ≤ t.next
  bound : t.next ≤ Config.numbersEnd
  order : (t.records.map (·.number)).Pairwise (· < ·)
  assigned : ∀ r ∈ t.records, 1 ≤ r.number ∧ r.number < t.next
  count : t.records.length ≤ Config.maxRecords

/-- The Key Index: each key once, and one pair for each record that is not VOIDED (R12). -/
structure ExtentTable.KeysSound (t : ExtentTable) : Prop where
  distinct : (t.keys.map (·.1)).Nodup
  pairs : ∀ k n, (k, n) ∈ t.keys ↔ ∃ r ∈ t.records, r.number = n ∧ r.key = k ∧ r.state ≠ .voided

/-- The disposal queue: no number twice, each entry's extent DISPOSING, and, while the part is live and initialized, an
entry for each extent in DISPOSING (R141). -/
structure State.QueueSound (s : State) : Prop where
  distinct : (s.engine.queue.map (·.ext)).Nodup
  disposing : ∀ e ∈ s.engine.queue, ∃ r, s.extent e.ext = some r ∧ r.state = .disposing
  complete : s.live = true → s.marker = true → ∀ r ∈ s.et.records, r.state = .disposing →
    r.number ∈ s.engine.queue.map (·.ext)

/-- The stores in address order: 0, then 0 and 1, then 0, 2, 1 and 3 (R24). -/
def StoreMap.inOrder (m : StoreMap) : List Store :=
  match m.stores with
  | [a, b, c, d] => [a, c, b, d]
  | l => l

/-- Stores that follow each other without gap or overlap from a first block up to an end (R24). -/
def Tiles : Nat → Nat → List Store → Prop
  | first, last, [] => first = last
  | first, last, st :: l => st.base = first ∧ Tiles st.limit last l

/-- The Store Map: 1, 2 or 4 stores (none before initialization), each frontier between base and limit, each reservation
at most 32, the stores disjoint and covering the data region, and no split pending that could not be applied (R23 to
R25, R27). -/
structure StoreMap.Sound (m : StoreMap) : Prop where
  count : m.stores.length ∈ [0, 1, 2, 4]
  ranges : ∀ st ∈ m.stores, st.base ≤ st.frontier ∧ st.frontier ≤ st.limit ∧ st.reservation ≤ 32
  cover : m.stores ≠ [] → Tiles m.regionBase (m.regionBase + m.regionSize) m.inOrder
  split : m.split.isSome = true → m.stores.length ≤ 2

/-- Each store's open extent is an extent being written in that store, and each extent being written is its store's open
extent: so a store holds at most one (R26, R9). -/
structure State.OpenSound (s : State) : Prop where
  writes : ∀ i st n, s.store i = some st → st.openExtent = some n →
    ∃ r, s.extent n = some r ∧ r.writing = true ∧ r.store = i
  holds : ∀ r ∈ s.et.records, r.writing = true → ∃ st, s.store r.store = some st ∧ st.openExtent = some r.number

/-! ### What a grant may do beside a command -/

/-- A slot that no grant changes: FREE or FINISHED. -/
def Slot.settled : Slot → Bool
  | .free => true
  | .finished _ _ => true
  | _ => false

/-- A slot that no grant changes on a node link: anything but a RUNNING DISPOSE. -/
def Slot.steady : Slot → Bool
  | .running _ (.dispose _) => false
  | _ => true

/-- The records a grant may change are DISPOSING ones. -/
structure AsideExtents (s t : State) : Prop where
  extents : ∀ n r, s.extent n = some r → r.state ≠ .disposing → t.extent n = some r
  absent : ∀ n, s.extent n = none → t.extent n = none
  numbers : t.et.records.map (·.number) = s.et.records.map (·.number)
  next : t.et.next = s.et.next
  keys : t.et.keys = s.et.keys

/-- The slots a grant may change are those of DISPOSEs and of the pending split. -/
structure AsideSlots (s t : State) : Prop where
  settled : ∀ ref v, s.slot ref = some v → v.settled = true → t.slot ref = some v
  nodeSlots : ∀ n i v, s.slot ⟨.node n, i⟩ = some v → v.steady = true → t.slot ⟨.node n, i⟩ = some v
  portSlots : ∀ i v, s.slot ⟨.cport, i⟩ = some v → v.steady = true →
    (∀ p, s.storeMap.split = some p → p.slot ≠ i) → t.slot ⟨.cport, i⟩ = some v
  slotCount : ∀ m, (t.slots m).length = (s.slots m).length
  split : t.storeMap.split = s.storeMap.split ∨ t.storeMap.split = none
  links : ∀ n, ∃ l, t.link n = { s.link n with slots := l }
  cport : ∃ l, t.cport = { s.cport with slots := l }

/-- What a grant may do to the rest: page list and waiting requests, more pending events, stores with the same open
extents. -/
structure AsideRest (s t : State) : Prop where
  journal : ∃ l w, t.journal = { s.journal with pageList := l, waits := w }
  events : ∀ m c, c ∈ s.pendingSet m → c ∈ t.pendingSet m
  routes : t.router.routes = s.router.routes
  openExtents : t.storeMap.stores.map (·.openExtent) = s.storeMap.stores.map (·.openExtent)

/-- The changes a grant may make beside a command. -/
structure Aside (s t : State) : Prop where
  et : AsideExtents s t
  slots : AsideSlots s t
  rest : AsideRest s t

/-! ### Laws from one state to the next -/

/-- The extent with this number is DISPOSING at SCRUBBING: its scrub has been issued (R7). -/
def State.scrubbing (s : State) (n : Nat) : Prop := ∃ r, s.extent n = some r ∧ r.isScrubbing = true

/-- What only grows over the life of an initialized part: archive seconds (R90), the policy-fixed latch (R109), the
next extent number (R11), the journal's next sequence and page counter (R152, R158), each store's frontier, at its
base (R25, R32), and the marker itself (R184). -/
structure Advances (s t : State) : Prop where
  seconds : s.clock.seconds ≤ t.clock.seconds
  latch : s.classes.fixed = true → t.classes.fixed = true
  next : s.et.next ≤ t.et.next
  sequence : s.journal.nextSeq ≤ t.journal.nextSeq
  pages : s.journal.counter ≤ t.journal.counter
  frontiers : ∀ i st, s.store i = some st → ∃ st', t.store i = some st' ∧ st'.base = st.base ∧ st.frontier ≤ st'.frontier
  marker : t.marker = true

end Sys2Proof.Machine
end

