-- ==== Sys2Proof/Certificates/Slice0/Obligations.lean ====
section
/-! DEFINITION. The statements for the provers, chapter by chapter. Each is a closed Prop over the definitions of the
model; its docstring names the rules it formalises, or says that it states a choice of the model. -/

open Sys2Proof Sys2Proof.Machine

/-! ### The queue -/

/-- One step takes the command at the front of the queue; with an empty queue the part stays as it is (log 1). -/
def Obligations.StepRunsTheFrontCommand : Prop :=
  ∀ s : State, (s.pending = [] → step s = .next s) ∧
    ∀ c rest, s.pending = c :: rest → step s = exec c (s.withPending rest)

/-- No command touches the queue of waiting commands (log 1). -/
def Obligations.CommandsLeaveTheQueue : Prop :=
  ∀ (i : Instr) (s t : State), exec i s = .next t → t.pending = s.pending

/-! ### Power and start-up -/

/-- RESET_N_ASSERT at a live part, and POWER_LOSS at any: table memory is kept and every volatile item takes its value
(00_scope.md section 4; R37, R38, R63, R87, R92, R154 to R156, R165, R168, R171, R173, R176 to R178, R180, R181, R185).
The part is held or off (log 5); settings are read again before they are used. -/
def Obligations.ResetAndPowerLossKeepTableMemory : Prop :=
  ∀ (i : Instr) (s : State) (p : Phase),
    (i = .resetNAssert ∧ s.live = true ∧ p = .held) ∨ (i = .powerLoss ∧ p = .off) →
    ∃ t, exec i s = .next t ∧ t.phase = p ∧ t.marker = s.marker ∧ t.et = s.et ∧ t.storeMap = s.storeMap ∧
      t.classes = s.classes ∧ t.holds = s.holds ∧
      t.journal = { s.journal with
        buffer := s.journal.buffer.map (fun e => { e with entered := 0 }), mark := none, waits := [] } ∧
      t.clock = ⟨s.clock.seconds, 0, .unsynced, 0, 0, false, 0, none, 0⟩ ∧
      t.media = ⟨none, [], [.node .a, .node .b, .cport]⟩ ∧
      t.write = List.replicate 4 ⟨.empty, .idle⟩ ∧ t.readers = [] ∧ t.engine = ⟨[], .idle⟩ ∧
      (∀ m, t.pendingSet m = []) ∧ t.alert = false ∧
      (∀ n, (t.link n).up = false ∧ (t.link n).msiEnabled = false ∧ (t.link n).mark = false ∧
        (t.link n).window = List.replicate 512 0 ∧ (t.link n).receiptArea = List.replicate 192 0 ∧
        (t.link n).slots = List.replicate 8 .free ∧ (t.link n).base = 1 ∧ (t.link n).limit = 0 ∧
        (t.link n).spacing = none) ∧
      t.cport.slots = List.replicate 2 .free ∧ t.cport.pageBuffers = [[], []] ∧ t.cport.last = none ∧
      t.cport.role = .examiner ∧ t.cport.count = 0

/-- POWER_ON at an unpowered part, or the release of RESET_N, with the initialized marker present: every block recovers
its table memory (R10, R35, R105, R122, R150, R163), and the interrupted extents wait for their places with the START
record behind them, places free or not (log 30). Settings and routes are those of the image (R183). The figures of the START record are taken at the
moments of log 15 (DEDUCED); POWER_ON asks nothing of RESET_N (log 27). -/
def Obligations.StartUpRecoversTables : Prop :=
  ∀ (i : Instr) (s : State) (env : StartEnv) (cause : Cause), s.marker = true →
    (i = .powerOn env ∧ s.phase = .off ∧ cause = .powerOn) ∨
      (i = .resetNRelease env ∧ s.phase = .held ∧ cause = .resetN) →
    ∃ t, exec i s = .next t ∧ t.phase = .startup ∧ t.marker = true ∧ t.taking = false ∧
      t.startup = ⟨cause, false, 0, t.engine.queue.length, s.journal.buffer.length, s.journal.used⟩ ∧
      t.classes = s.classes ∧ t.holds = s.holds ∧ t.et.next = s.et.next ∧ t.et.keys = s.et.keys ∧
      t.et.records = s.et.records.map (fun r =>
        if r.state = .disposing then
          if t.journal.exhausted then { r with state := .committed, sub := none, attempts := none }
          else { r with sub := some .queued }
        else r) ∧
      t.engine = ⟨if t.journal.exhausted then []
        else ((s.et.records.filter (fun r => decide (r.state = .disposing))).map (fun r => ⟨r.number, .device, none⟩)),
        .idle⟩ ∧
      t.storeMap = { s.storeMap with
        stores := s.storeMap.stores.map (fun st =>
          { st with reservation := 0, state := if st.state = .splitting then .active else st.state })
        split := none } ∧
      t.clock = ⟨s.clock.seconds, 0, .unsynced, 0, 0, false, 0, none, 0⟩ ∧
      t.journal.buffer = s.journal.buffer.map (fun e => { e with entered := 0 }) ∧
      t.journal.nextSeq = s.journal.nextSeq ∧ t.journal.lastCheck = s.journal.lastCheck ∧
      t.journal.overflow = s.journal.overflow ∧ t.journal.mark = none ∧
      t.journal.counter = s.journal.used ∧
      t.journal.pageList.take s.journal.pageList.length = s.journal.pageList.map PageEntry.recovered ∧
      t.journal.waits =
        ((s.et.records.filter (fun r => decide (r.state = .opened ∨ r.state = .closing))).map
          (fun r => .recovery r.number)) ++ [.start] ∧
      t.readers = [] ∧ t.write = List.replicate 4 ⟨.empty, .idle⟩ ∧ (∀ ref v, t.slot ref = some v →
        v = .free) ∧
      t.settings = (loadImage true env.image).settings ∧ t.router.routes = (loadImage true env.image).routes

/-- Start-up without the marker, after power-on or the release of RESET_N: the regions are fixed from the image and the array, table memory is initialized, the
marker is set, and only the START record waits (R184, R22, R23, R108, R109, R122). `l` is what the loader read. A blank
part whose array cannot hold the default journal region stays without the marker, with table memory as it was, and
refuses every capsule STARTING (R184). The default journal region must fit only where it is needed, and the entries of a
replaced region count as skipped, as log 14 (DEDUCED) reads the rules; POWER_ON asks nothing of RESET_N (log 27). -/
def Obligations.BlankPartInitializesItself : Prop :=
  (∀ (i : Instr) (s : State) (env : StartEnv) (cause : Cause), s.marker = false →
    (i = .powerOn env ∧ s.phase = .off ∧ cause = .powerOn) ∨
      (i = .resetNRelease env ∧ s.phase = .held ∧ cause = .resetN) →
    let l := loadImage false env.image
    let array := min env.arrayBlocks 4294967296
    let fits := l.journalBase + l.journalPages ≤ array
    let base := if fits then l.journalBase else 0
    let pages := if fits then l.journalPages else 4096
    let first := l.dataBase.getD (base + pages)
    let last := if l.dataSize = 0 then max first array else first + l.dataSize
    let kept := last ≤ array ∧ (last ≤ base ∨ base + pages ≤ first ∨ last ≤ first)
    let low := if kept then first else base + pages
    let size := if kept then last - first else array - (base + pages)
    (fits ∨ 4096 ≤ array) →
    ∃ t, exec i s = .next t ∧ t.phase = .startup ∧ t.marker = true ∧
      t.storeMap = ⟨low, size, [⟨low, low + size, low, 0, none, if size < 2 then .full else .active⟩], none⟩ ∧
      t.classes = ⟨l.classes, false⟩ ∧ t.holds = ⟨[], 0⟩ ∧ t.et = ⟨[], 1, []⟩ ∧ t.clock.seconds = 0 ∧
      t.journal = ⟨base, pages, [], 1, 0, 0, [], 0, none, [.start]⟩ ∧
      t.settings = { l.settings with
        skipped := l.settings.skipped + (if fits then 0 else l.journalEntries) + (if kept then 0 else l.dataEntries) } ∧
      t.router.routes = l.routes ∧ t.startup = ⟨cause, true, 0, 0, 0, 0⟩) ∧
  ∀ (i : Instr) (s : State) (env : StartEnv), s.marker = false →
    (i = .powerOn env ∧ s.phase = .off) ∨ (i = .resetNRelease env ∧ s.phase = .held) →
    min env.arrayBlocks 4294967296 <
      (loadImage false env.image).journalBase + (loadImage false env.image).journalPages →
    env.arrayBlocks < 4096 →
    ∃ t, exec i s = .next t ∧ t.phase = .startup ∧ t.marker = false ∧ t.taking = false ∧ t.et = s.et ∧
      t.storeMap = s.storeMap ∧ t.classes = s.classes ∧ t.holds = s.holds ∧ t.journal.waits = []

/-- An absent image, an image of one entry, and an image of several (R183, 13.7): each setting is clamped to its range, an
initialization-only entry is passed over under the marker, uncounted and before its value is examined (log 14, DEDUCED),
and an unknown number is skipped and counted. Entries act in their order, each on what the earlier ones left, so a later
entry replaces an earlier one of its setting; reading stops at the end entry, at the last whole entry, and after 4,096
entries. The values are 32-bit. -/
def Obligations.ImageEntriesAreClamped : Prop :=
  (∀ (marker : Bool) (l : Loaded) (k v : Nat), k < 4294967296 → v < 4294967296 →
    let t := l.apply marker (le 4 k ++ le 4 v)
    let c := v % 256
    let w := v / 256 % 256
    let skip : Settings := { l.settings with skipped := l.settings.skipped + 1 }
    t.settings =
      (match k with
       | 1 => { l.settings with cportAddr := BitVec.ofNat 7 (max 8 (min 0x77 v)) }
       | 2 => { l.settings with cmodeN := max 2 (min 15 v) }
       | 3 => { l.settings with openTimeout := max 10 (min 3600 v) }
       | 4 => { l.settings with holdoverTime := max 60 (min 86400 v) }
       | 5 => { l.settings with partialTime := max 10 (min 600 v) }
       | 6 => { l.settings with arbiter := if v = 0 then .fixed else .rotating }
       | 7 => if 2 ≤ c ∧ c ≤ 10 then l.settings else skip
       | 20 => if marker = true ∨ c < 16 then l.settings else skip
       | _ => if 16 ≤ k ∧ k ≤ 19 then l.settings else skip) ∧
    t.routes = (if k = 7 ∧ 2 ≤ c ∧ c ≤ 10 then l.routes.set c (Route.ofByte w) else l.routes) ∧
    t.journalBase = (if k = 16 ∧ marker = false then v else l.journalBase) ∧
    t.journalPages = (if k = 17 ∧ marker = false then max 1024 (min 1048576 v) else l.journalPages) ∧
    t.dataBase = (if k = 18 ∧ marker = false then some v else l.dataBase) ∧
    t.dataSize = (if k = 19 ∧ marker = false then v else l.dataSize) ∧
    t.classes = (if k = 20 ∧ marker = false ∧ c < 16 then
      l.classes.set c ⟨w.testBit 0, min 36500 (v / 65536), w.testBit 1, w.testBit 2⟩ else l.classes)) ∧
  (∀ (marker : Bool) (es : List (Nat × Nat)) (rest : List Byte),
    (∀ e ∈ es, 0 < e.1 ∧ e.1 < 4294967296 ∧ e.2 < 4294967296) → es ≠ [] →
    es.head? ≠ some (4294967295, 4294967295) →
    let bytes := (es.map (fun e => le 4 e.1 ++ le 4 e.2)).flatten
    let l := (es.take 4096).foldl (fun l e => l.apply marker (le 4 e.1 ++ le 4 e.2)) Loaded.defaults
    loadImage marker (bytes ++ [0, 0, 0, 0] ++ rest) = l ∧ (rest.length < 8 → loadImage marker (bytes ++ rest) = l) ∧
      (4096 ≤ es.length → loadImage marker (bytes ++ rest) = l)) ∧
  (∀ marker, loadImage marker [] = Loaded.defaults ∧
    ∀ rest, loadImage marker (List.replicate 8 0xFF ++ rest) = Loaded.defaults) ∧
  ∀ (marker : Bool) (k v : Nat), k < 4294967296 → v < 4294967296 →
    ¬(k = 4294967295 ∧ v = 4294967295) →
    let l := loadImage marker (le 4 k ++ le 4 v)
    l.settings =
      (match k with
       | 1 => { Settings.reset with cportAddr := BitVec.ofNat 7 (max 8 (min 0x77 v)) }
       | 2 => { Settings.reset with cmodeN := max 2 (min 15 v) }
       | 3 => { Settings.reset with openTimeout := max 10 (min 3600 v) }
       | 4 => { Settings.reset with holdoverTime := max 60 (min 86400 v) }
       | 5 => { Settings.reset with partialTime := max 10 (min 600 v) }
       | 6 => { Settings.reset with arbiter := if v = 0 then .fixed else .rotating }
       | 7 => { Settings.reset with skipped := if 2 ≤ v % 256 ∧ v % 256 ≤ 10 then 0 else 1 }
       | 20 => { Settings.reset with skipped := if marker ∨ v % 256 < 16 then 0 else 1 }
       | _ => { Settings.reset with skipped := if k = 0 ∨ (16 ≤ k ∧ k ≤ 19) then 0 else 1 }) ∧
    l.routes =
      (if k = 7 ∧ 2 ≤ v % 256 ∧ v % 256 ≤ 10 then Route.defaults.set (v % 256) (Route.ofByte (v / 256 % 256))
       else Route.defaults) ∧
    l.journalPages = (if k = 17 ∧ marker = false then max 1024 (min 1048576 v) else 4096)

/-- The first interrupted extent that waits is VOIDED once its place can be granted (R10, R8, R9, R155); what voiding does is
said by `VoidedExtentLosesKeyAndStore`. The START record ends start-up: entered when a place is free, counted when the
region is entirely full and none is (R163, R161, R185). -/
def Obligations.StartUpVoidsThenRecordsStart : Prop :=
  (∀ (s : State) (n : Nat) (r : Extent) (rest : List PlaceRequest),
    s.journal.waits = .recovery n :: rest → s.journal.grantable (.recovery n) = true → s.extent n = some r →
    let u := (s.withJournal { s.journal with waits := rest }).voidExtent r .device .interrupted
    exec .recoveryVoid s =
      .next ({ u with startup := { s.startup with voided := s.startup.voided + 1 } }).judgePage) ∧
  ∀ (s : State) (rest : List PlaceRequest), s.phase = .startup → s.journal.waits = .start :: rest →
    s.journal.grantable .start = true →
    let u := (s.withJournal { s.journal with waits := rest }).record .device
      (.start s.startup.cause s.startup.initialized s.clock.seconds s.clock.state s.startup.voided s.startup.requeued
        s.startup.found s.startup.pagesFound s.settings.skipped)
    exec .start s = .next ({ u with phase := .running }).judgePage ∧
      ∀ t, exec .start s = .next t → t.taking = true ∧ t.startup = s.startup ∧ t.clock = s.clock ∧ t.holds = s.holds ∧
        t.classes = s.classes ∧ t.et.next = s.et.next

/-- State.reset: the values that power-on and RESET_N give each volatile item (R37, R38, R63, R87, R92, R165, R168, R171, R173,
R176 to R178, R180, R181, R183), and every invariant of the laws below. Choices of the model, and no rule's, are: the part there
is unpowered and blank, and table memory reads as nothing (log 5); CPORT's candidate level is EXAMINER's (log 6); the model's
own counter freeCount is 0 (log 7); and its own latches and counters dmaOut, readOut, msiA and msiB are empty or 0 (log 11). -/
def Obligations.ResetStateIsTheInvariantsStart : Prop :=
  let s := State.reset
  (s.phase = .off ∧ s.marker = false ∧ s.taking = false ∧ s.pending = [] ∧ s.freeCount = 0 ∧
    s.settings = ⟨0x52, 4, 120, 900, 60, .rotating, 0⟩ ∧
    (∀ n, s.link n = ⟨false, false, false, List.replicate 512 0, none, List.replicate 8 .free, 1, 0, none, []⟩) ∧
    s.cport = ⟨List.replicate 2 .free, [[], []], none, .examiner, .examiner, 0, []⟩ ∧
    s.readers = [] ∧ s.write = List.replicate 4 ⟨.empty, .idle⟩ ∧ s.media = ⟨none, [], [.node .a, .node .b, .cport]⟩ ∧
    s.clock = ⟨0, 0, .unsynced, 0, 0, false, 0, none, 0⟩ ∧ s.engine = ⟨[], .idle⟩ ∧
    (∀ m, s.pendingSet m = []) ∧ s.router.msiA = 0 ∧ s.router.msiB = 0 ∧
    (∀ k, s.routeOf k = match k with
      | .completion | .fetchFault => ⟨false, false, false⟩
      | .storeFull | .splitDone | .clockState | .journalLow => ⟨true, true, true⟩
      | _ => ⟨false, false, true⟩) ∧
    s.et = ⟨[], 1, []⟩ ∧ s.storeMap = ⟨0, 0, [], none⟩ ∧ s.holds = ⟨[], 0⟩ ∧
    s.classes = ⟨List.replicate 16 ⟨false, 0, false, false⟩, false⟩ ∧
    s.journal = ⟨0, 0, [], 1, 0, 0, [], 0, none, []⟩) ∧
  s.Whole ∧ s.settings.Sound ∧ s.clock.Sound ∧ s.cport.count < s.settings.cmodeN ∧ s.JournalSound ∧
    s.holds.Sound s.clock.seconds ∧ s.et.Sound ∧ s.et.KeysSound ∧ s.QueueSound ∧ s.storeMap.Sound ∧ s.OpenSound

/-! ### Node links and the compliance port -/

/-- A reset of a node's link (R173, R165, R168, R171, R72, R83, R106, R181): the link's own items; each of its slots FREE
or DETACHED by what it held; one reader fewer for each READ that ends with it, while a READ whose FETCH is in
flight and every VERIFY keep theirs (R63, R72); and nothing of the other link, CPORT,
the clock, the holds, the classes or the journal. The bytes a transfer in progress had placed stay in node memory (R72): how
many they are is a free value for each slot (logs 7, 17), and the model's latch shows them (log 11). -/
def Obligations.LinkResetEmptiesTheLink : Prop :=
  ∀ (s : State) (n : Node), s.live = true → (s.link n).slots.length = 8 →
    let ends (i k : Nat) : Bool := match s.slot ⟨.node n, i⟩ with
      | some (.running _ (.read w)) => w.ext == k && (s.readWaits ⟨.node n, i⟩ || w.dma.isSome)
      | _ => false
    let moving (i : Nat) : Bool := match s.slot ⟨.node n, i⟩ with
      | some (.running _ (.read w)) => w.dma.isSome
      | _ => false
    let cells (placed : Nat → Nat) (i : Nat) : List Host.Cell := match s.slot ⟨.node n, i⟩ with
      | some (.running _ (.read w)) =>
        if w.dma.isSome then (dmaCells w.fragments w.buffer).take (placed i) else []
      | _ => []
    ∃ (t : State) (placed : Nat → Nat), exec (.linkReset n) s = .next t ∧
      (t.link n).up = false ∧ (t.link n).msiEnabled = (s.link n).msiEnabled ∧ (t.link n).mark = false ∧
      (t.link n).window = List.replicate 512 0 ∧ (t.link n).receipt = none ∧ (t.link n).base = 1 ∧
      (t.link n).limit = 0 ∧ (t.link n).spacing = none ∧ (t.link n).slots.length = 8 ∧
      (∀ i v, s.slot ⟨.node n, i⟩ = some v → t.slot ⟨.node n, i⟩ = some
        (match v with
         | .running _ (.verify w) => .detached (.verify w)
         | .running _ (.read w) =>
             if s.readWaits ⟨.node n, i⟩ ∨ w.dma.isSome then .free else .detached (.read w)
         | .detached w => .detached w
         | _ => .free)) ∧
      t.pendingSet (.node n) = [] ∧ (∀ m, m ≠ .node n → t.pendingSet m = s.pendingSet m) ∧
      (∀ m, m ≠ n → t.link m = s.link m) ∧ t.cport = s.cport ∧
      t.media = { s.media with
        waiting := s.media.waiting.filter (fun op => match op.requester with
          | .read ref => decide (ref.master ≠ .node n ∨ 8 ≤ ref.index) ||
              (match s.slot ref with
               | some (.running _ (.read _)) => false
               | _ => true)
          | _ => true) } ∧
      t.engine = { s.engine with
        queue := s.engine.queue.map (fun e =>
          { e with slot := e.slot.filter (fun ref => decide (ref.master ≠ .node n)) }) } ∧
      t.clock = s.clock ∧ t.classes = s.classes ∧ t.holds = s.holds ∧ t.journal = s.journal ∧
      t.phase = s.phase ∧ t.settings = s.settings ∧ t.et.keys = s.et.keys ∧ t.et.next = s.et.next ∧
      (∀ k, t.readerCount k = s.readerCount k - ((List.range 8).filter (fun i => ends i k)).length) ∧
      (t.link n).dmaOut =
        (if (List.range 8).any moving then ((List.range 8).map (cells placed)).flatten else (s.link n).dmaOut)

/-- What a link reset does to extents and stores: an extent whose APPEND was being fetched is OPEN with nothing in flight,
its store's reservation 0, area EMPTY and timer RUNNING; every other extent is as it was (R44, R56, R27). -/
def Obligations.LinkResetFailsTheFetches : Prop :=
  ∀ (s t : State) (n : Node), s.live = true → exec (.linkReset n) s = .next t →
    (∀ k r, s.extent k = some r →
      (∀ i h w, s.slot ⟨.node n, i⟩ = some (.running h (.append w)) → w.dma.isSome = true → w.ext ≠ k) →
      t.extent k = some r) ∧
    ∀ k r i h w, i < 8 → s.slot ⟨.node n, i⟩ = some (.running h (.append w)) → w.dma.isSome = true → w.ext = k →
      s.extent k = some r → r.state = .opened → r.inFlight = some .append →
      (s.store r.store).isSome = true → r.store < s.write.length →
      t.extent k = some { r with inFlight := some .nothing, lastActivity := some s.clock.tick } ∧
        (t.store r.store).map (·.reservation) = some 0 ∧ t.unit r.store = ⟨.empty, .running⟩

/-- Training completes; the node writes the MSI-enabled flag of a link that is up; a write into the window stores its bytes
at its offset and sets the mark, a write of no byte too (log 16, DEDUCED). Nothing else changes (R165, R173). The model writes
the flag of an up link alone (log 18). A write that does not lie within the window stops the run, in every state, and nothing else ever does (log 16:
the model's fault). -/
def Obligations.LinkTrainingFlagAndWindow : Prop :=
  (∀ (s : State) (n : Node), s.live = true →
    exec (.linkUp n) s = .next (s.withLink n { s.link n with up := true }) ∧
    ((s.link n).up = true → ∀ enable,
      exec (.msiEnableWrite n enable) s = .next (s.withLink n { s.link n with msiEnabled := enable })) ∧
    ((s.link n).up = true → (s.link n).window.length = 512 →
      ∀ offset bytes, offset < 512 → offset + bytes.length ≤ 512 →
      ∃ w, exec (.capsuleWindowWrite n offset bytes) s =
          .next (s.withLink n { s.link n with window := w, mark := true }) ∧ w.length = 512 ∧
        ∀ k, k < 512 → w[k]? =
          if offset ≤ k ∧ k < offset + bytes.length then bytes[k - offset]? else (s.link n).window[k]?)) ∧
  ∀ (s : State) (n : Node) (offset : Nat) (bytes : List Byte),
    (512 ≤ offset ∨ 512 < offset + bytes.length ↔
      exec (.capsuleWindowWrite n offset bytes) s = .fault .outsideWindow) ∧
    ∀ i f, exec i s = .fault f → ∃ m o b, i = .capsuleWindowWrite m o b ∧ (512 ≤ o ∨ 512 < o + b.length)

/-- A hand-over read that finds the mark clear is answered NO_CAPSULE, and so is a CPORT read without an UNREAD receipt;
the last receipt stays. A CPORT read of an UNREAD last receipt returns its bytes, then 0x00, and makes it READ once a
byte was returned; the receipt is the last one until a capsule replaces it (R165, R176). Slot and role bytes of
NO_CAPSULE are log 8. -/
def Obligations.ReadsFindTheirReceipt : Prop :=
  (∀ (s : State) (n : Node), s.live = true → (s.link n).up = true → (s.link n).mark = false →
    exec (.noCapsule (.link n)) s =
      .next (s.withLink n { s.link n with
        receipt := some ⟨0, 0, .refused, .noCapsule, none, none, []⟩ })) ∧
  (∀ (s : State) (len : Nat), s.live = true → (∀ l, s.cport.last = some l → l.isRead = true) →
    exec (.noCapsule (.cport s.settings.cportAddr len)) s =
      .next { s with cport := { s.cport with
        readOut := padTo len ((Receipt.bytes ⟨0, 0, .refused, .noCapsule, none, some s.cport.role, []⟩).take len) } }) ∧
  ∀ (s : State) (len : Nat) (r : Receipt), s.live = true → s.cport.last = some ⟨r, false⟩ → 0 < len →
    ∃ out, exec (.cportReceiptRead s.settings.cportAddr len) s =
        .next { s with cport := { s.cport with last := some ⟨r, true⟩, readOut := out } } ∧
      out.length = len ∧ ∀ k, k < len → out[k]? = some ((r.bytes[k]?).getD 0)

/-- An I2C write that ends before its capsule does hands nothing over: it is no capsule to any row, and the part stays as
it was. A complete one is handed over (R175); one whose stated length is 0 to 3 is complete with its four bytes, as log 13
(DEDUCED) reads R175. -/
def Obligations.PartialWritesAreDiscarded : Prop :=
  ∀ (s : State) (addr : BitVec 7) (bytes : List Byte),
    exec (.cportPartialCapsule addr bytes) s = .next s ∧
    ((bytes.length < 4 ∨ (field 0 2 bytes ≤ 128 ∧ bytes.length < field 0 2 bytes)) →
      s.received (.write addr bytes) = none ∧ (∀ k : Kind, exec (k.command (.write addr bytes)) s = .next s) ∧
        exec (.badKind (.write addr bytes)) s = .next s) ∧
    (s.live = true → addr = s.settings.cportAddr → 4 ≤ bytes.length →
      (128 < field 0 2 bytes ∨ field 0 2 bytes ≤ bytes.length) →
      s.received (.write addr bytes) = some ⟨.cport, bytes.take 128⟩)

/-- A capsule of unknown kind or wrong length is refused BAD_KIND once capsules are taken and STARTING before; every other
capsule is refused STARTING until start-up ends (R166 steps 1 and 2, R175, R177, R185). `shape` is none exactly for an
unknown kind or a wrong length. -/
def Obligations.EarlyRefusalsComeInOrder : Prop :=
  (∀ (s : State) (h : HandOver) (c : Capsule), s.received h = some c → c.shape = none →
    exec (.badKind h) s =
      .next (s.answered c .refused (if s.taking then .badKind else .starting) none [])) ∧
  (∀ c : Capsule, c.shape = none ↔
    ∀ k n, Kind.ofCode c.kindByte.toNat = some k →
      match c.master with
      | .node _ => n ≤ 16 → c.length ≤ 512 → c.length ≠ 4 + k.operandBytes + 16 * n
      | .cport => c.length ≤ 128 → c.length ≠ 4 + k.operandBytes) ∧
  ∀ (s : State) (h : HandOver) (c : Capsule) (k : Kind) (n : Nat),
    s.received h = some c → c.shape = some (k, n) → s.taking = false →
    exec (k.command h) s = .next (s.answered c .refused .starting none [])

/-- R179's table, and ROLE for every capsule it does not take, before tag and owner are looked at. -/
def Obligations.RolesDecideWhichKindsAreTaken : Prop :=
  (∀ (k : Kind) (m : Master) (role : Role), k.takenFrom m role = true ↔
    match m with
    | .node _ => k ∉ [.holdPlace, .holdLift, .extend, .classSet, .policyFix, .split, .adopt, .route, .journalRead]
    | .cport =>
      (role = .compliance ∧ k ∉ [.openExtent, .append, .close, .read, .window, .time]) ∨
        (role = .examiner ∧
          k ∈ [.verify, .query, .find, .status, .events, .holdList, .classGet, .journalRead])) ∧
  ∀ (s : State) (h : HandOver) (c : Capsule) (k : Kind) (n : Nat),
    s.received h = some c → c.shape = some (k, n) → s.taking = true → k.takenFrom c.master s.cport.role = false →
    exec (k.command h) s = .next (s.answered c .refused .role none [])

/-- A capsule whose tag a slot holds: PENDING with the slot, the stored result and a FREE slot (with the page buffer of a CPORT
slot gone, R177), or TAG_CONFLICT. No second operation is started (R169). The code of PENDING and the slot byte of the others are log 8. -/
def Obligations.HeldTagsAreAnsweredBySlot : Prop :=
  ∀ (s : State) (h : HandOver) (c : Capsule) (k : Kind) (n i : Nat),
    s.received h = some c → c.shape = some (k, n) → s.taking = true → k.takenFrom c.master s.cport.role = true →
    s.tagSlot c.master c.tag = some i →
    ∃ v, s.slot ⟨c.master, i⟩ = some v ∧ v.tag? = some c.tag ∧
      exec (k.command h) s =
        match v with
        | .running held _ =>
            if held.capsule = c.body then .next (s.answered c .pending .ok (some i) [])
            else .next (s.answered c .refused .tagConflict none [])
        | .finished held r =>
            if held.capsule = c.body then
              .next ((match c.master with
                | .node _ => (s.takeMark c.master).setSlot ⟨c.master, i⟩ .free
                | .cport => { s with cport := { s.cport with
                    slots := s.cport.slots.set i .free, pageBuffers := s.cport.pageBuffers.set i [] } }).finish c
                      s.cport.role r.code r.fields)
            else .next (s.answered c .refused .tagConflict none [])
        | _ => .next s

/-- The fragment checks in their order; CPORT passes them over (R170, R177). -/
def Obligations.FragmentListsAreChecked : Prop :=
  (∀ (s : State) (n : Node) (q : Req) (l : List Fragment), s.fragmentCheck (.node n) q l =
    let window := s.link n
    let shaped (f : Fragment) : Prop := f.addr % 512 = 0 ∧ 512 ≤ f.len ∧ f.len ≤ 131072 ∧ f.len % 512 = 0
    let inside (f : Fragment) : Prop := window.base * 65536 ≤ f.addr ∧ f.addr + f.len ≤ (window.limit + 1) * 65536
    let count := match q with
      | .append _ blocks => blocks
      | .read _ _ blocks => blocks
      | _ => 0
    if q.kind ≠ .append ∧ q.kind ≠ .read then (if l = [] then none else some .fragmentShape)
    else if window.limit < window.base then some .windowClosed
    else if l = [] ∨ ¬ ∀ f ∈ l, shaped f then some .fragmentShape
    else if 1 ≤ count ∧ count ≤ 32 ∧ (l.map (·.len)).sum ≠ count * 4096 then some .fragmentShape
    else if ¬ ∀ f ∈ l, inside f then some .fragmentRange
    else none) ∧
  (∀ s q l, State.fragmentCheck s .cport q l = none) ∧
  ∀ (s : State) (h : HandOver) (c : Capsule) (k : Kind) (n : Nat) (code : Code),
    s.received h = some c → c.shape = some (k, n) → s.taking = true → k.takenFrom c.master s.cport.role = true →
    s.tagSlot c.master c.tag = none → s.fragmentCheck c.master (c.request k) (c.fragments k n) = some code →
    exec (k.command h) s = .next (s.answered c .refused code none [])

/-- A capsule is what its bytes say: for every request whose operands fit their fields, every tag and every fragment list
of up to 16 entries that fit, the bytes of 13.1 (whatever follows them in the window) are read back as that kind, that
tag, that request and those fragments (R186, R187, 13.1). A HOLD_PLACE, EXTEND or other kind alike. -/
def Obligations.CapsuleBytesRoundTrip : Prop :=
  ∀ (q : Req) (tag : Byte) (l : List Fragment) (rest : List Byte) (n : Node), q.fits = true → l.length ≤ 16 →
    (∀ f ∈ l, f.addr < 2 ^ 64 ∧ f.len < 2 ^ 32) →
    let c : Capsule := ⟨.node n, capsuleBytes q tag l ++ rest⟩
    c.shape = some (q.kind, l.length) ∧ c.tag = tag ∧ c.request q.kind = q ∧ c.fragments q.kind l.length = l ∧
      c.body = capsuleBytes q tag l ∧
      (l = [] → (⟨.cport, capsuleBytes q tag []⟩ : Capsule).shape = some (q.kind, 0))

/-- WINDOW replaces the staging window of its own link, and answers with it (R171). EVENTS returns and empties the pending
set of its target; ROUTE replaces the route of a routable class, which is refused BAD_RANGE for any other, and answers
with the route and the forced target (R182). The forced byte of OPEN_TIMEOUT is a free value (log 7). -/
def Obligations.WindowEventsAndRoute : Prop :=
  (∀ (s : State) (h : HandOver) (c : Capsule) (n : Node) (base limit : Nat), c.master = .node n →
    Reaches s h c (.window base limit) [] →
    exec (.window h) s =
      .next (((s.takeMark c.master).withLink n { (s.takeMark c.master).link n with base := base, limit := limit }).finish
        c s.cport.role .ok (le 6 base ++ le 6 limit ++ flag (decide (base ≤ limit))))) ∧
  (∀ (s t : State) (n : Node), s.live = true → exec (.linkReset n) s = .next t →
    (t.link n).base = 1 ∧ (t.link n).limit = 0) ∧
  (∀ (s : State) (h : HandOver) (c : Capsule), Reaches s h c .events [] →
    ∃ t : State, exec (.events h) s =
        .next (t.finish c s.cport.role .ok (le 2 (classBits (s.pendingSet c.master)))) ∧
      t.pendingSet c.master = [] ∧ (∀ m, m ≠ c.master → t.pendingSet m = s.pendingSet m) ∧
      t = { s.takeMark c.master with router := t.router } ∧ t.router.routes = s.router.routes) ∧
  ∀ (s : State) (h : HandOver) (c : Capsule) (cls : Nat) (rt : Route), Reaches s h c (.route cls rt) [] →
    exec (.route h) s =
      if cls < 2 ∨ 10 < cls then .next (s.answered c .refused .badRange none [])
      else
        .next (({ s.takeMark c.master with
          router := { s.router with routes := s.router.routes.set cls rt } }).finish c s.cport.role .ok
            (le 1 cls ++ le 1 rt.byte ++
              [if cls = 2 then Config.openerForcedByte else if cls < 7 then 0 else 4]))

/-- Raising a class: it joins the pending set of its forced target and of each target of its route, once, unless the target
is a link that is down; a set that stops being empty sends one message where the node has enabled them, and none
otherwise. Nothing else changes (R180, R181). -/
def Obligations.RaisedClassesJoinPendingSets : Prop :=
  ∀ (s : State) (k : EventClass) (forced : Option Master),
    let routed (m : Master) : Bool := match m with
      | .node .a => (s.routeOf k).a || forced == some m
      | .node .b => (s.routeOf k).b || forced == some m
      | .cport => (s.routeOf k).cport || forced == some m
    let reached (m : Master) : Bool := match m with
      | .node n => routed m && (s.link n).up
      | .cport => routed m
    let t := s.raise k forced
    (∀ m, t.pendingSet m =
      if reached m ∧ k ∉ s.pendingSet m then s.pendingSet m ++ [k] else s.pendingSet m) ∧
    t.router.msiA = s.router.msiA +
      (if reached (.node .a) ∧ s.router.setA = [] ∧ s.linkA.msiEnabled then 1 else 0) ∧
    t.router.msiB = s.router.msiB +
      (if reached (.node .b) ∧ s.router.setB = [] ∧ s.linkB.msiEnabled then 1 else 0) ∧
    t = { s with router := t.router } ∧ t.router.routes = s.router.routes ∧
    (t.alert = true ↔ t.pendingSet .cport ≠ [])

/-- CMODE samples, and the change of role in the step of the sample that brings the count to N (R178). ROLE_CHANGE makes the
same change where the count stands at N (log 2). -/
def Obligations.CmodeSamplesDecideTheRole : Prop :=
  ∀ (s : State) (low : Bool), s.live = true →
    let level : Role := if low then .compliance else .examiner
    let turn (p : CPort) : CPort :=
      if s.settings.cmodeN ≤ p.count then { p with role := p.candidate, count := 0 } else p
    let port : CPort :=
      if level = s.cport.role then { s.cport with count := 0 }
      else if level = s.cport.candidate ∧ 0 < s.cport.count then
        turn { s.cport with count := min 15 (s.cport.count + 1) }
      else turn { s.cport with candidate := level, count := 1 }
    exec (.cmodeSample low) s = .next { s with cport := port } ∧
    (s.settings.cmodeN ≤ s.cport.count →
      exec .roleChange s = .next { s with cport := { s.cport with role := s.cport.candidate, count := 0 } }) ∧
    (s.cport.count < s.settings.cmodeN → exec .roleChange s = .next s)

/-! ### Shared operations -/

/-- Entering a record: the next sequence, archive seconds now, the check chained to the last one over 128 bytes, the end of
the buffer with its entry tick; with all 64 places occupied it is counted instead, without a sequence (R152, R153, R154,
R161). -/
def Obligations.RecordsAreChained : Prop :=
  (∀ (s : State) (o : Origin) (x : Subject),
    (s.journal.buffer.length < 64 →
      let body := le 8 s.journal.nextSeq ++ le 4 s.clock.seconds ++ le 1 x.kind ++ le 1 o.code ++ padTo 110 x.bytes
      let check := dataCheck (le 4 s.journal.lastCheck.toNat ++ body)
      body.length = 124 ∧
      s.record o x = { s with journal := { s.journal with
        buffer := s.journal.buffer ++ [⟨⟨s.journal.nextSeq, s.clock.seconds, o, x, check⟩, s.clock.tick⟩]
        nextSeq := s.journal.nextSeq + 1
        lastCheck := check } }) ∧
    (64 ≤ s.journal.buffer.length →
      s.record o x = { s with journal := { s.journal with overflow := min (s.journal.overflow + 1) 4294967295 } })) ∧
  ∀ r : Record, r.bytes.length = 128

/-- The data check takes each byte least significant bit first, its test values are those of R61, it does not depend on how
the bytes are divided, and it is stored least significant byte first (R61). -/
def Obligations.DataCheckHasItsTestValue : Prop :=
  dataCheck [0x31, 0x32, 0x33, 0x34, 0x35, 0x36, 0x37, 0x38, 0x39] = 0xCBF43926#32 ∧ dataCheck [] = 0#32 ∧
  (∀ (reg : Word32) (a b : List Byte), crcAbsorb reg (a ++ b) = crcAbsorb (crcAbsorb reg a) b) ∧
  (∀ bytes, dataCheck bytes = crcAbsorb 0xFFFFFFFF#32 bytes ^^^ 0xFFFFFFFF#32) ∧
  (∀ v : Word32, le 4 v.toNat = [v.extractLsb' 0 8, v.extractLsb' 8 8, v.extractLsb' 16 8, v.extractLsb' 24 8]) ∧
  ∀ (reg : Word32) (b : Byte),
    crcByte reg b = (List.range 8).foldl (fun (r : Word32) (i : Nat) =>
      if r.getLsbD 0 = b.getLsbD i then r >>> 1 else (r >>> 1) ^^^ 0xEDB88320#32) reg

/-- The end of an operation: a RUNNING slot is FINISHED with the result and COMPLETION raised to its own link or port alone;
a DETACHED one is FREE without an event; every other slot stays (R168, R180). A reader count grows and falls by 1 for its
extent alone, and its entry goes at 0 (R63). -/
def Obligations.SlotsFinishAndReadersAreCounted : Prop :=
  (∀ (s : State) (ref : SlotRef) (res : Result),
    (∀ h w, s.slot ref = some (.running h w) →
      s.endSlot ref res = (s.setSlot ref (.finished h res)).raiseAt ref.master .completion ∧
      (s.endSlot ref res).slot ref = some (.finished h res)) ∧
    (∀ w, s.slot ref = some (.detached w) →
      s.endSlot ref res = s.setSlot ref .free ∧ (s.endSlot ref res).slot ref = some .free) ∧
    ((∀ h w, s.slot ref ≠ some (.running h w)) → (∀ w, s.slot ref ≠ some (.detached w)) → s.endSlot ref res = s) ∧
    (∀ r, r ≠ ref → (s.endSlot ref res).slot r = s.slot r) ∧
    ∀ m, m ≠ ref.master → (s.endSlot ref res).pendingSet m = s.pendingSet m) ∧
  ∀ (s : State) (n m : Nat),
    (s.addReader n).readerCount m = (if m = n then s.readerCount n + 1 else s.readerCount m) ∧
    (s.dropReader n).readerCount m = (if m = n then s.readerCount n - 1 else s.readerCount m) ∧
    s.addReader n = { s with readers := (s.addReader n).readers } ∧
    s.dropReader n = { s with readers := (s.dropReader n).readers } ∧
    (s.readerCount n ≤ 1 → ∀ p ∈ (s.dropReader n).readers, p.1 ≠ n)

/-- A transition to VOIDED from a writing state: the record, its parts and its journal record (R5, R8); the key leaves the
Key Index (R14); the store's open extent is cleared, its area EMPTY and its timer IDLE (R9, R37, R38); then a pending split
whose stores are now quiet asks for its place (R32; `askSplit` is said by `StoresAreSplit`). No other extent can become
VOIDED (R4, R5). -/
def Obligations.VoidedExtentLosesKeyAndStore : Prop :=
  ∀ (s : State) (r : Extent) (o : Origin) (cause : VoidCause),
    (r.state ≠ .opened → r.state ≠ .closing → s.voidExtent r o cause = s) ∧
    (s.extent r.number = some r → (r.state = .opened ∨ r.state = .closing) →
    let placed : Prop := s.journal.buffer.length < 64
    ∃ t : State, s.voidExtent r o cause = t.askSplit ∧ (s.voidExtent r o cause).et = t.et ∧
      (s.storeMap.split = none → s.voidExtent r o cause = t) ∧
      t.extent r.number = some { r with
        state := .voided, lastActivity := none, inFlight := none, running := none, voidCause := some cause
        dispSeq := if placed then some s.journal.nextSeq else none } ∧
      (∀ m, m ≠ r.number → t.extent m = s.extent m) ∧
      t.et.keys = s.et.keys.filter (fun p => p.2 != r.number) ∧ t.et.next = s.et.next ∧
      t.storeMap = { s.storeMap with
        stores := s.storeMap.stores.modify r.store (fun st => { st with openExtent := none }) } ∧
      t.write = s.write.set r.store ⟨.empty, .idle⟩ ∧
      t.journal = { (s.record o (.voided r.number r.key r.store cause r.start r.count)).journal with
        waits := s.journal.waits.erase (.openTimeout r.store) } ∧
      t = { s with et := t.et, storeMap := t.storeMap, write := t.write, journal := t.journal })

/-! ### The media channel -/

/-- Placing an operation: granted at once at a FREE channel with an empty wait list, and otherwise at the end of the list
(R78). A grant takes the chosen operation off the list, gives its origin the last turn and issues it, and does nothing when
there is none; a completion step ends with the channel FREE and a grant (R79, R80). The grant chooses a JOURNAL_WRITE first, then the earliest operation of the first origin in turn that has one, then a
SCRUB (R80, R81, R82). -/
def Obligations.GrantsFollowRankAndTurn : Prop :=
  (∀ (s : State) (op : MediaOp), s.media.channel.isSome ∨ s.media.waiting ≠ [] →
    s.place op = { s with media := { s.media with waiting := s.media.waiting ++ [op] } }) ∧
  (∀ (s : State) (op : MediaOp), s.media.channel = none → s.media.waiting = [] →
    s.place op = ({ s with media := { s.media with waiting := [op] } }).grant) ∧
  (∀ s : State, s.complete = ({ s with media := { s.media with channel := none } }).grant ∧
    (s.media.choose s.settings.arbiter = none → s.grant = s) ∧
    ∀ op, s.media.choose s.settings.arbiter = some op →
      s.grant = ({ s with media := { s.media with
        waiting := s.media.waiting.erase op, turn := s.media.turned s.settings.arbiter op } }).issue op) ∧
  ∀ (m : Media) (mode : ArbMode),
    (∀ op, m.waiting.find? (·.isPage) = some op → m.choose mode = some op ∧ (op.origin = none → m.turned mode op = m.turn)) ∧
    (m.waiting.find? (·.isPage) = none → ∀ (before after : List Master) (o : Master) (op : MediaOp),
      (match mode with | .fixed => [.node .a, .node .b, .cport] | .rotating => m.turn) = before ++ o :: after →
      (∀ x ∈ before, ∀ y ∈ m.waiting, y.origin ≠ some x) →
      m.waiting.find? (fun y => y.origin == some o) = some op →
      m.choose mode = some op ∧
        (mode = .fixed → m.turned mode op = m.turn) ∧
        (mode = .rotating → o ∉ before → m.turned mode op = before ++ after ++ [o])) ∧
    (m.waiting.find? (·.isPage) = none → (∀ y ∈ m.waiting, y.origin = none) →
      (∀ x, m.choose mode = some x → x.isScrub = true) ∧
      (∀ y ∈ m.waiting, y.isScrub = true → (m.choose mode).isSome = true))

/-- What a grant may do beside the command that brings it about, wherever one is made: `Aside` (R79 to R85). Beside the
channel, the wait list and the turn order, it may change DISPOSING extents, the stores but for their open extents, the page
list, the waiting requests, the disposal queue and stage, and the slots of DISPOSEs and of the pending split, and it may add
pending events and messages. It never touches the clock, the classes, the holds, readers, staging areas, timers or
settings. -/
def Obligations.GrantsChangeNothingElse : Prop :=
  ∀ (s : State) (op : MediaOp),
    Aside s s.grant ∧ Aside s (s.place op) ∧ Aside s s.complete ∧ Aside s s.judgePage ∧
    ∀ t, t = s.grant ∨ t = s.place op ∨ t = s.complete ∨ t = s.judgePage →
      t.clock = s.clock ∧ t.classes = s.classes ∧ t.holds = s.holds ∧ t.readers = s.readers ∧ t.write = s.write ∧
        t.settings = s.settings ∧ t.phase = s.phase ∧ t.marker = s.marker ∧ t.startup = s.startup ∧
        t.pending = s.pending

/-- The issue of a PROGRAM: its first block is the frontier, which moves past its last; an APPEND's reservation becomes 0; a
SPLITTING store that falls below 8,192 free blocks fails the split, whose slot ends TOO_SMALL; a store with fewer than 2 free
blocks becomes FULL and raises STORE_FULL on its route (R25, R28, R29, R31). A program that would pass the limit is not
issued (R25; log 29). -/
def Obligations.ProgramIssueMovesTheFrontier : Prop :=
  ∀ (s : State) (op : MediaOp) (i : Nat) (st : Store), s.store i = some st →
    (op.requester = .append i ∨ op.requester = .trailer i) →
    let t := s.issue op
    let free := st.limit - (st.frontier + op.count)
    let fails : Prop := st.state = .splitting ∧ free < 8192 ∧ s.storeMap.split.isSome
    (st.limit < st.frontier + op.count → t = s) ∧
    (st.frontier + op.count ≤ st.limit →
    t.media.channel = some ⟨{ op with first := st.frontier }, s.clock.tick⟩ ∧
    (∃ st', t.store i = some st' ∧ st'.base = st.base ∧ st'.limit = st.limit ∧ st'.frontier = st.frontier + op.count ∧
      st'.openExtent = st.openExtent ∧
      st'.reservation = (if op.requester = .append i then 0 else st.reservation) ∧
      st'.state = (if free < 2 then .full else if fails then .active else st.state)) ∧
    (st.state ≠ .splitting → ∀ j, j ≠ i → t.store j = s.store j) ∧
    t.storeMap.split = (if fails then none else s.storeMap.split) ∧
    (fails → ∀ p h w, s.storeMap.split = some p → s.slot ⟨.cport, p.slot⟩ = some (.running h w) →
      t.slot ⟨.cport, p.slot⟩ = some (.finished h ⟨.tooSmall, []⟩) ∧ .completion ∈ t.pendingSet .cport) ∧
    (st.state ≠ .full → free < 2 → ∀ m, (match m with
      | .node .a => (s.routeOf .storeFull).a && s.linkA.up
      | .node .b => (s.routeOf .storeFull).b && s.linkB.up
      | .cport => (s.routeOf .storeFull).cport) = true → .storeFull ∈ t.pendingSet m) ∧
    ((st.state = .full ∨ 2 ≤ free) → ∀ m, .storeFull ∈ t.pendingSet m → .storeFull ∈ s.pendingSet m) ∧
    t.clock = s.clock ∧ t.et = s.et ∧ t.engine = s.engine)

/-- The issue of a page write: the oldest records, up to 32, are on the page, its entry is ISSUED, the pages used grow by 1,
and the thresholds are judged on them (R158, R160): at P - floor(P / 16) JOURNAL_LOW, at P - 8 the exhaustion of general
journal space, after which no split is pending, and each extent on the queue that is not SCRUBBING is COMMITTED again and off
the queue, a waiting SCRUB withdrawn. A head at SCRUBBING or in RECORDING goes on (R149). -/
def Obligations.PageIssueJudgesTheThresholds : Prop :=
  ∀ (s : State) (op : MediaOp) (k : Nat), op.requester = .journalWrite k →
    s.journal.pageList.any (·.isIssued) = false →
    let t := s.issue op
    let u := s.journal.counter + 1
    let queued (e : QueueEntry) : Prop :=
      ∃ r, s.extent e.ext = some r ∧ r.state = .disposing ∧ r.sub ≠ some .scrubbing
    let returned (e : QueueEntry) : Prop := t.extent e.ext = (s.extent e.ext).map (fun r =>
      { r with state := .committed, sub := none, attempts := none })
    t.media.channel = some ⟨op, s.clock.tick⟩ ∧
    t.journal.pageList = s.journal.pageList ++ [.issued s.journal.flushed (min 32 s.journal.buffer.length)] ∧
    t.journal.used = u ∧ t.journal.buffer = s.journal.buffer ∧ t.journal.counter = s.journal.counter ∧
    (u = s.journal.pages - s.journal.pages / 16 → ∀ m, (match m with
      | .node .a => (s.routeOf .journalLow).a && s.linkA.up
      | .node .b => (s.routeOf .journalLow).b && s.linkB.up
      | .cport => (s.routeOf .journalLow).cport) = true → .journalLow ∈ t.pendingSet m) ∧
    (u = s.journal.pages - 8 → t.storeMap.split = none) ∧
    (u = s.journal.pages - 8 → s.engine.stage ≠ .scrubbing → s.engine.stage ≠ .recording →
      (∀ e ∈ s.engine.queue, queued e) →
      t.engine = ⟨[], .idle⟩ ∧ (∀ e ∈ s.engine.queue, returned e) ∧
        t.media.waiting = s.media.waiting.filter (fun x => !x.isScrub)) ∧
    (u = s.journal.pages - 8 → s.engine.stage = .scrubbing ∨ s.engine.stage = .recording →
      ∀ e rest, s.engine.queue = e :: rest → (∀ x ∈ rest, queued x ∧ x.ext ≠ e.ext) →
      t.engine = ⟨[e], s.engine.stage⟩ ∧ (∀ x ∈ rest, returned x) ∧ t.extent e.ext = s.extent e.ext ∧
        t.media.waiting = s.media.waiting) ∧
    (u ≠ s.journal.pages - 8 → t.engine = s.engine ∧ t.storeMap = s.storeMap ∧ t.et = s.et)

/-- A page write is placed exactly when the three conditions of R157 hold. -/
def Obligations.PageWritesArePlacedWhenDue : Prop :=
  ∀ s : State,
    let due : Prop := (∀ op ∈ s.media.waiting, op.isPage = false) ∧ (∀ e ∈ s.journal.pageList, e.isIssued = false) ∧
      s.journal.counter < s.journal.pages ∧
      (32 ≤ s.journal.buffer.length ∨
        ∃ e rest, s.journal.buffer = e :: rest ∧ e.entered + s.settings.partialTime ≤ s.clock.tick)
    let op : MediaOp := ⟨.journalWrite s.journal.counter, none, s.journal.base + s.journal.counter, 1⟩
    (due → s.judgePage = s.place op) ∧ (¬ due → s.judgePage = s)

/-! ### Writing an extent -/

/-- OPEN: the checks of R39 in their order, then one new record, its key, the next number, the store's open extent and its
timer (R13 to R17, R27, R40). At a full table the RELEASED or VOIDED record with the lowest number goes whose journal
record is on media. Every key has a record, as R14 and R17 keep it. -/
def Obligations.OpenIsJudgedAndTaken : Prop :=
  ∀ (s : State) (h : HandOver) (c : Capsule) (n : Node) (store cls group key : Nat), c.master = .node n →
    Reaches s h c (.openExtent store cls group key) [] →
    (∀ e, s.keyOwner key = some e → (s.extent e).isSome = true) →
    let no (code : Code) (fields : List Byte) : Host.Outcome State Fault Refusal :=
      .next (s.answered c .refused code none fields)
    exec (.openExtent h) s =
      if s.classes.fixed = false then no .policyOpen []
      else match s.store store with
        | none => no .badStore []
        | some st =>
          if st.state = .splitting ∨ st.openExtent.isSome then no .storeBusy []
          else if st.state = .full then no .storeFull []
          else if (s.classes.entries[cls]?.any (·.defined)) = false then no .badClass []
          else if key = 0 then no .badKey []
          else if 4095 < group then no .badRange []
          else match (s.keyOwner key).bind s.extent with
            | some r => no (if r.state = .released then .keyRetired else .duplicateKey)
                (le 4 r.number ++ le 1 r.state.code)
            | none =>
              let yes (records : List Extent) (keys : List (Nat × Nat)) : Host.Outcome State Fault Refusal :=
                .next (({ s.takeMark c.master with
                  et := {
                    records := records ++ [({
                      number := s.et.next, key := key, group := group, store := store, cls := cls, opener := n
                      start := st.frontier, count := 0, state := .opened, lastActivity := some s.clock.tick
                      inFlight := some .nothing, running := some 0xFFFFFFFF#32, commitSecond := none
                      provisional := none, check := none, integrity := none, floor := none, lastVerified := none
                      sub := none, attempts := none, disposalSecond := none, voidCause := none, dispSeq := none } : Extent)]
                    next := s.et.next + 1
                    keys := keys ++ [(key, s.et.next)] }
                  storeMap := { s.storeMap with
                    stores := s.storeMap.stores.modify store (fun x => { x with openExtent := some s.et.next }) }
                  write := s.write.set store ⟨.empty, .running⟩ }).finish c s.cport.role .ok
                    (le 4 s.et.next ++ le 4 st.frontier))
              if 4294967296 ≤ s.et.next then no .tableFull []
              else if s.et.records.length < 32768 then yes s.et.records s.et.keys
              else match s.et.records.find? (fun r =>
                  (r.state == .released || r.state == .voided) && r.dispSeq.any (fun q => decide (q < s.journal.flushed))) with
                | none => no .tableFull []
                | some t => yes (s.et.records.filter (fun r => r.number != t.number))
                    (if t.state = .released then s.et.keys.filter (fun p => p.2 != t.number) else s.et.keys)

/-- The checks that APPEND, CLOSE and ABANDON share, in the order of R42 (R48, R53). ABANDON from CPORT has no opener to
match. -/
def Obligations.WriteCommandsShareTheirChecks : Prop :=
  ∀ (s : State) (h : HandOver) (c : Capsule) (q : Req) (frags : List Fragment) (ext : Nat), Reaches s h c q frags →
    (q = .close ext ∨ q = .abandon ext ∨ ∃ blocks, q = .append ext blocks ∧ 1 ≤ blocks ∧ blocks ≤ 32) →
    let no (code : Code) : Prop := exec (q.kind.command h) s = .next (s.answered c .refused code none [])
    (ext = 0 ∨ s.et.next ≤ ext → no .notFound) ∧
    (ext ≠ 0 → ext < s.et.next → s.extent ext = none → no .evicted) ∧
    ∀ r, ext ≠ 0 → ext < s.et.next → s.extent ext = some r →
      ((∃ n, c.master = .node n ∧ n ≠ r.opener) → no .notOpener) ∧
      ((∀ n, c.master = .node n → n = r.opener) →
        (r.state = .voided → no .extentVoid) ∧
        (r.state ≠ .voided → r.state ≠ .opened → no .notOpen) ∧
        (r.state = .opened → r.inFlight ≠ some .nothing → no .extentBusy))

/-- APPEND: its own checks, the reservation condition of R27, then RUNNING with its transfer begun: the reservation, the
operation in flight, the area FILLING, the timer IDLE, a waiting open timeout withdrawn (R42, R43, R55). -/
def Obligations.AppendIsJudgedAndTaken : Prop :=
  ∀ (s : State) (h : HandOver) (c : Capsule) (ext blocks : Nat) (frags : List Fragment),
    Reaches s h c (.append ext blocks) frags →
    let no (code : Code) : Host.Outcome State Fault Refusal := .next (s.answered c .refused code none [])
    (blocks < 1 ∨ 32 < blocks → exec (.append h) s = no .badRange) ∧
    ∀ r st, 1 ≤ blocks → blocks ≤ 32 → 1 ≤ ext → ext < s.et.next → s.extent ext = some r →
      c.master = .node r.opener → r.state = .opened → r.inFlight = some .nothing → s.store r.store = some st →
      exec (.append h) s =
        if 4096 < r.count + blocks then no .extentFull
        else if st.limit < st.frontier + st.reservation + blocks + 1 then no .storeSpace
        else match s.freeSlot c.master with
          | none => no .slotsFull
          | some i => .next (({ s.takeMark c.master with
              storeMap := { s.storeMap with
                stores := s.storeMap.stores.modify r.store (fun x => { x with reservation := blocks }) }
              et := { s.et with records := s.et.records.map (fun (x : Extent) =>
                if x.number = ext ∧ x.state = ExtState.opened ∧ x.inFlight = some InFlight.nothing then
                  { x with inFlight := some .append }
                else x) }
              write := s.write.set r.store ⟨.filling, .idle⟩
              journal := { s.journal with waits := s.journal.waits.erase (.openTimeout r.store) } }).begin c s.cport.role
                i (.append ⟨ext, blocks, frags, some s.clock.tick⟩) [])

/-- A fetch that is complete makes the area HELD and places the PROGRAM with the opener as its origin (R45). One that fails,
or whose read request is unanswered at the second tick after it was sent, leaves the extent OPEN with its last activity
now, the store as before the APPEND, and ends the slot with NODE_MEMORY_FAULT after FETCH_FAULT to its own link (R44,
R172). When a request was sent is an operand (log 17). -/
def Obligations.FetchesEnd : Prop :=
  ∀ (s : State) (n : Node) (i began : Nat) (h : Held) (w : AppendWork) (r : Extent) (st : Store),
    s.slot ⟨.node n, i⟩ = some (.running h (.append w)) → w.dma = some began → s.extent w.ext = some r →
    s.store r.store = some st →
    (∀ data : List (List Byte), data.map (·.length) = w.fragments.map (·.len) →
      exec (.fetchComplete n i data) s =
        .next ((({ s with write := s.write.set r.store ⟨.held data.flatten, .idle⟩ }).setSlot ⟨.node n, i⟩
          (.running h (.append { w with dma := none }))).place
            ⟨.append r.store, some (.node r.opener), st.frontier, w.blocks⟩)) ∧
    let u : State := { s with
      storeMap := { s.storeMap with
        stores := s.storeMap.stores.modify r.store (fun x => { x with reservation := 0 }) }
      et := { s.et with records := s.et.records.map (fun (x : Extent) =>
        if x.number = w.ext ∧ x.state = ExtState.opened ∧ x.inFlight = some InFlight.append then
          { x with inFlight := some .nothing, lastActivity := some s.clock.tick }
        else x) }
      write := s.write.set r.store ⟨.empty, .running⟩ }
    let failed : State :=
      (u.raiseAt (.node n) .fetchFault).endSlot ⟨.node n, i⟩ ⟨.nodeMemoryFault, le 2 r.count⟩
    exec (.fetchFailed n i) s = .next failed ∧
    ∀ sent, exec (.dmaReadTimeout n i sent) s =
      .next (if began ≤ sent ∧ sent + 2 ≤ s.clock.tick then failed else s)

/-- A PROGRAM of an APPEND answered with OK: the count, the check over the bytes of the area and the last activity move, and
its slot, if it still exists, ends (R46, R56); with MEDIA_ERROR a place for a VOIDED record is requested (R47; the request
and its effect are said by `ExtentsAreVoided`). -/
def Obligations.AppendProgramsEnd : Prop :=
  ∀ (s : State) (i first blocks : Nat) (o : Option Master), s.answering = some ⟨.append i, o, first, blocks⟩ →
    (∀ r data timer, s.openRecord i = some r → s.write[i]? = some ⟨.held data, timer⟩ →
      exec .appendProgramOk s = .next ((({ s with
        et := { s.et with records := s.et.records.map (fun (x : Extent) =>
          if x.number = r.number ∧ x.state = ExtState.opened ∧ x.inFlight = some InFlight.append then
            { x with
              count := x.count + blocks, running := x.running.map (crcAbsorb · data)
              lastActivity := some s.clock.tick, inFlight := some .nothing }
          else x) }
        write := s.write.set i ⟨.empty, .running⟩ }).endWrite r ⟨.ok, le 2 (r.count + blocks)⟩).complete)) ∧
    exec .appendProgramMediaError s = .next (s.request (.mediaFault i)).complete

/-- CLOSE: EMPTY, SLOTS_FULL, or CLOSING with the trailer HELD and its PROGRAM placed (R48, R49, R55); the trailer is 4,096
bytes, opens with its marker and ends with its own check (R49, R188). Its PROGRAM with OK commits the extent (R5, R50,
R51, R61) and lets the store go, where a pending split may then apply (R32; `StoresAreSplit`); with MEDIA_ERROR a place for
a VOIDED record is requested (R52; `ExtentsAreVoided`). -/
def Obligations.CloseCommits : Prop :=
  (∀ (s : State) (h : HandOver) (c : Capsule) (ext : Nat) (r : Extent) (st : Store), Reaches s h c (.close ext) [] →
    1 ≤ ext → ext < s.et.next → s.extent ext = some r → c.master = .node r.opener → r.state = .opened →
    r.inFlight = some .nothing → s.store r.store = some st →
    let no (code : Code) : Host.Outcome State Fault Refusal := .next (s.answered c .refused code none [])
    exec (.close h) s =
      if r.count = 0 then no .empty
      else match s.freeSlot c.master with
        | none => no .slotsFull
        | some i => .next ((({ s.takeMark c.master with
            et := { s.et with records := s.et.records.map (fun (x : Extent) =>
              if x.number = ext ∧ x.state = ExtState.opened ∧ x.inFlight = some InFlight.nothing then
                { x with state := .closing, inFlight := some .close, lastActivity := none }
              else x) }
            write := s.write.set r.store
              ⟨.held (trailer r (r.running.getD 0xFFFFFFFF#32 ^^^ 0xFFFFFFFF#32) s.clock.seconds s.clock.state), .idle⟩
            journal := { s.journal with waits := s.journal.waits.erase (.openTimeout r.store) } }).place
              ⟨.trailer r.store, some (.node r.opener), st.frontier, 1⟩).begin c s.cport.role i (.close ext) [])) ∧
  (∀ (r : Extent) (check : Word32) (seconds : Nat) (clock : ClockState),
    let t := trailer r check seconds clock
    t.length = 4096 ∧ t.take 8 = [0x57, 0x52, 0x34, 0x31, 0x32, 0x54, 0x52, 0x4C] ∧
      t.drop 4092 = le 4 (dataCheck (t.take 4092)).toNat) ∧
  ∀ (s : State) (i first blocks : Nat) (o : Option Master), s.answering = some ⟨.trailer i, o, first, blocks⟩ →
    (∀ r, s.openRecord i = some r → r.state = .closing →
      let early : Bool := decide (s.clock.state = .unsynced ∨ s.clock.state = .drift)
      let done (x : Extent) : Extent := { x with
        state := .committed, lastActivity := none, inFlight := none, running := none
        commitSecond := some s.clock.seconds, provisional := some early
        check := some (x.running.getD 0xFFFFFFFF#32 ^^^ 0xFFFFFFFF#32), integrity := some .unverified }
      exec .trailerOk s = .next (((({ s with
        et := { s.et with records := s.et.records.map (fun (x : Extent) =>
          if x.number = r.number ∧ x.state = ExtState.closing then done x else x) }
        write := s.write.set i ⟨.empty, .idle⟩ }).endWrite r
          ⟨.ok, le 4 s.clock.seconds ++ le 4 (r.running.getD 0xFFFFFFFF#32 ^^^ 0xFFFFFFFF#32).toNat ++ flag early ++ [0] ++
            le 2 (s.expiry (done r))⟩).modStore i (fun x => { x with openExtent := none })).askSplit.judgeSince
              s).complete) ∧
    exec .trailerMediaError s = .next (s.request (.mediaFault i)).complete

/-- ABANDON needs room for its record and voids the extent at once (R53). A request is granted in its own step while nothing
waits before it and a place is free, in a full region it is counted and goes on, and else it waits; the first that waits
may be granted when a place is free (R155, R161). A failed program's extent is voided at its place and its slot ends
MEDIA_FAULT (R47, R52, R59); an extent quiet for the open timeout makes its timer DUE, which requests the place at which it is
voided and OPEN_TIMEOUT raised to its opener (R38, R54). R157 is judged at the request's own record (log 31). -/
def Obligations.ExtentsAreVoided : Prop :=
  (∀ (s : State) (h : HandOver) (c : Capsule) (ext : Nat) (r : Extent), Reaches s h c (.abandon ext) [] →
    1 ≤ ext → ext < s.et.next → s.extent ext = some r → (∀ n, c.master = .node n → n = r.opener) →
    r.state = .opened → r.inFlight = some .nothing →
    exec (.abandon h) s =
      if 56 ≤ s.journal.buffer.length then .next (s.answered c .refused .journalBacklog none [])
      else if s.journal.pages ≤ s.journal.counter then .next (s.answered c .refused .journalFull none [])
      else .next ((((s.takeMark c.master).voidExtent r (.master c.master) .abandoned).judgePage).finish c s.cport.role
        .ok (le 2 r.count))) ∧
  (∀ (s : State) (r : PlaceRequest), s.request r =
    if s.journal.waits = [] ∧ s.journal.mark = none ∧
        (s.journal.buffer.length < 64 ∨ s.journal.pages ≤ s.journal.counter) then (s.settle r).judgePage
    else { s with journal := { s.journal with waits := s.journal.waits ++ [r] } }) ∧
  (∀ (j : Journal) (r : PlaceRequest), j.grantable r = true ↔
    j.waits.head? = some r ∧ j.mark = none ∧ (j.buffer.length < 64 ∨ j.pages ≤ j.counter)) ∧
  (∀ (s : State) (i : Nat) (r : Extent), s.openRecord i = some r →
    s.settle (.mediaFault i) = (s.voidExtent r .device .mediaFault).endWrite r
      ⟨.mediaFault, if r.state = ExtState.opened then le 2 r.count ++ [7] else [7]⟩ ∧
    s.settle (.openTimeout i) = (s.voidExtent r .device .timeout).raise .openTimeout (some (.node r.opener)) ∧
    ∀ since area, r.state = .opened → r.inFlight = some .nothing → r.lastActivity = some since →
      s.write[i]? = some ⟨area, .running⟩ →
      s.judgeTimer i = (if since + s.settings.openTimeout ≤ s.clock.tick then
        ({ s with write := s.write.set i ⟨area, .due⟩ }).request (.openTimeout i) else s)) ∧
  ∀ (s : State) (i : Nat), exec (.openTimeoutDue i) s = .next (s.judgeTimer i) ∧
    (s.journal.grantable (.mediaFault i) = true → exec (.mediaFaultVoid i) s =
      .next (((s.withJournal { s.journal with waits := s.journal.waits.erase (.mediaFault i) }).settle
        (.mediaFault i)).judgePage)) ∧
    (s.journal.grantable (.openTimeout i) = true → exec (.openTimeout i) s =
      .next (((s.withJournal { s.journal with waits := s.journal.waits.erase (.openTimeout i) }).settle
        (.openTimeout i)).judgePage))

/-! ### Reading and verification -/

/-- READ: the checks of R65 in their order, then one more reader, the FETCH placed under the master's origin, and a RUNNING
slot (R63 to R65). Its FETCH with OK fills the buffer and begins the transfer; with the link reset meanwhile the READ ends
without one (R66, R72). With MEDIA_ERROR the slot ends with the range that failed (R67). -/
def Obligations.ReadIsTakenAndFetched : Prop :=
  (∀ (s : State) (h : HandOver) (c : Capsule) (ext offset blocks : Nat) (frags : List Fragment),
    Reaches s h c (.read ext offset blocks) frags →
    let no (code : Code) : Host.Outcome State Fault Refusal := .next (s.answered c .refused code none [])
    exec (.read h) s =
      if blocks < 1 ∨ 32 < blocks then no .badRange
      else if ext = 0 ∨ s.et.next ≤ ext then no .notFound
      else match s.extent ext with
        | none => no .evicted
        | some r =>
          if r.state = .opened ∨ r.state = .closing then no .notCommitted
          else if r.state = .released ∨ r.state = .voided ∨ (r.state = .disposing ∧ r.sub ≠ some .queued) then no .gone
          else if r.count < offset + blocks then no .badRange
          else match s.freeSlot c.master with
            | none => no .slotsFull
            | some i => .next ((((s.takeMark c.master).addReader ext).place
                ⟨.read ⟨c.master, i⟩, some c.master, r.start + offset, blocks⟩).begin c s.cport.role i
                  (.read ⟨ext, offset, blocks, frags, [], none⟩) [])) ∧
  ∀ (s : State) (ref : SlotRef) (first blocks : Nat) (o : Option Master) (w : ReadWork),
    s.answering = some ⟨.read ref, o, first, blocks⟩ →
    (∀ data, data.length = blocks * 4096 →
      (∀ h, s.slot ref = some (.running h (.read w)) → exec (.readFetchOk data) s =
        .next (s.setSlot ref (.running h (.read { w with buffer := data, dma := some s.clock.tick }))).complete) ∧
      (s.slot ref = some (.detached (.read w)) → exec (.readFetchOk data) s =
        .next ((s.dropReader w.ext).setSlot ref .free).complete)) ∧
    ((s.slot ref = some (.detached (.read w)) ∨ ∃ h, s.slot ref = some (.running h (.read w))) →
      exec .readFetchMediaError s =
        .next ((s.dropReader w.ext).endSlot ref ⟨.mediaFault, le 2 w.offset ++ le 1 w.blocks⟩).complete)

/-- The transfer of a READ: its last byte ends the slot with the block count; a failure leaves what was placed in node
memory, raises FETCH_FAULT to its own link alone and ends the slot NODE_MEMORY_FAULT; a read request unanswered at the
second tick fails it (R66, R172). The fetched bytes go to the fragments in their order (R170). What was placed is kept in
the model's own latch (log 11); the model sends the one read request after the last byte (log 17). -/
def Obligations.ReadTransfersEnd : Prop :=
  ∀ (s : State) (n : Node) (i began : Nat) (h : Held) (w : ReadWork),
    s.slot ⟨.node n, i⟩ = some (.running h (.read w)) → w.dma = some began →
    (w.fragments.map (·.len)).sum = w.buffer.length →
    ∃ cells : List Host.Cell,
      cells.map (·.1) = (w.fragments.map (fun f => (List.range f.len).map (f.addr + ·))).flatten ∧
      cells.map (·.2) = w.buffer ∧
      exec (.readDmaComplete n i) s =
        .next (((s.withLink n { s.link n with dmaOut := cells }).dropReader w.ext).endSlot ⟨.node n, i⟩
          ⟨.ok, le 1 w.blocks⟩) ∧
      let failed (placed : Nat) : State :=
        (((s.withLink n { s.link n with dmaOut := cells.take placed }).dropReader w.ext).raiseAt (.node n)
          .fetchFault).endSlot ⟨.node n, i⟩ ⟨.nodeMemoryFault, []⟩
      (∀ placed, exec (.readDmaFailed n i placed) s = .next (failed placed)) ∧
      ∀ sent, exec (.dmaReadTimeout n i sent) s =
        .next (if began ≤ sent ∧ sent + 2 ≤ s.clock.tick then failed w.buffer.length else s)

/-- VERIFY: the checks of R68, then one more reader and the first run of up to 32 blocks placed (R69). A run with OK enters
the check; the next run is placed, or the value is compared: a match sets integrity GOOD and ends the slot, a mismatch, as
a run with MEDIA_ERROR, requests the place of an INTEGRITY record (R70, R71; `IntegrityIsRecorded`). The result's fields that
the outcome does not have are log 9 (DEDUCED). -/
def Obligations.VerifyRunsToItsEnd : Prop :=
  (∀ (s : State) (h : HandOver) (c : Capsule) (ext : Nat), Reaches s h c (.verify ext) [] →
    let no (code : Code) : Host.Outcome State Fault Refusal := .next (s.answered c .refused code none [])
    exec (.verify h) s =
      if ext = 0 ∨ s.et.next ≤ ext then no .notFound
      else match s.extent ext with
        | none => no .evicted
        | some r =>
          if r.state = .opened ∨ r.state = .closing then no .notCommitted
          else if r.state = .released ∨ r.state = .voided ∨ (r.state = .disposing ∧ r.sub ≠ some .queued) then no .gone
          else match s.freeSlot c.master with
            | none => no .slotsFull
            | some i => .next ((((s.takeMark c.master).addReader ext).place
                ⟨.verify ⟨c.master, i⟩, some c.master, r.start, min 32 r.count⟩).begin c s.cport.role i
                  (.verify ⟨ext, 0xFFFFFFFF#32, 0, 0, none⟩) [])) ∧
  ∀ (s : State) (ref : SlotRef) (first blocks : Nat) (o : Option Master) (w : VerifyWork) (r : Extent),
    s.answering = some ⟨.verify ref, o, first, blocks⟩ → s.extent w.ext = some r →
    (s.slot ref = some (.detached (.verify w)) ∨ ∃ h, s.slot ref = some (.running h (.verify w))) →
    let keep (w' : VerifyWork) : State := s.setSlot ref
      (match s.slot ref with
       | some (.running h _) => .running h (.verify w')
       | _ => .detached (.verify w'))
    (∀ data, data.length = blocks * 4096 →
      let w' : VerifyWork := { w with
        register := crcAbsorb w.register data, offset := w.offset + blocks, verified := w.verified + blocks }
      let value : Word32 := w'.register ^^^ 0xFFFFFFFF#32
      exec (.verifyFetchOk data) s =
        if w'.offset < r.count then
          .next ((keep w').place ⟨.verify ref, some ref.master, r.start + w'.offset,
            min 32 (r.count - w'.offset)⟩).complete
        else if value = r.check.getD 0 then
          .next ((((s.modExtent w.ext (fun x =>
            if x.state = .committed ∨ x.state = .disposing ∨ x.state = .disposalFailed then
              { x with integrity := some .good, lastVerified := some s.clock.seconds }
            else x)).dropReader w.ext).endSlot ref
              ⟨.ok, le 4 value.toNat ++ le 4 value.toNat ++ le 2 w'.verified ++ le 4 s.clock.seconds ++ [0]⟩)).complete
        else .next ((keep { w' with damage := some (.mismatch value) }).request (.integrity ref)).complete) ∧
    exec .verifyFetchMediaError s =
      .next ((keep { w with damage := some (.mediaFault w.offset blocks) }).request (.integrity ref)).complete

/-- The place of an INTEGRITY record is granted: the record, integrity DAMAGED, one reader fewer, the slot's end and
INTEGRITY (R71, R152). The result's fields that the outcome does not have are log 9 (DEDUCED). A request that is not the
first to wait, or has no place yet, waits on, here as for every other request (R155). -/
def Obligations.IntegrityIsRecorded : Prop :=
  (∀ (s : State) (ref : SlotRef) (w : VerifyWork) (d : Damage) (r : Extent),
    s.verifyAt ref = some w → w.damage = some d → s.extent w.ext = some r →
    let check : Word32 := r.check.getD 0
    let u := (s.record (.master ref.master) (.integrity w.ext d check)).modExtent w.ext
      (fun x => if x.state = .committed ∨ x.state = .disposing ∨ x.state = .disposalFailed then
        { x with integrity := some .damaged, lastVerified := some s.clock.seconds } else x)
    s.settle (.integrity ref) = ((u.dropReader w.ext).endSlot ref
      (match d with
       | .mismatch v => ⟨.mismatch, le 4 v.toNat ++ le 4 check.toNat ++ le 2 w.verified ++ le 4 s.clock.seconds ++ [0]⟩
       | .mediaFault offset blocks =>
           ⟨.mediaFault, le 4 0 ++ le 4 check.toNat ++ le 2 w.verified ++ le 4 offset ++ le 1 blocks⟩)).raise .integrity
             (some .cport)) ∧
  (∀ (s : State) (ref : SlotRef), s.journal.grantable (.integrity ref) = true →
    exec (.integrityRecord ref) s = .next ((s.dropWait (.integrity ref)).settle (.integrity ref)).judgePage) ∧
  ∀ (s : State) (ref : SlotRef) (i : Nat),
    (s.journal.grantable (.integrity ref) = false → exec (.integrityRecord ref) s = .next s) ∧
    (s.journal.grantable (.mediaFault i) = false → exec (.mediaFaultVoid i) s = .next s) ∧
    (s.journal.grantable (.openTimeout i) = false → exec (.openTimeout i) s = .next s) ∧
    (s.journal.grantable .disposed = false → exec .disposed s = .next s) ∧
    (s.journal.grantable .disposalFailed = false → exec .disposalFailed s = .next s) ∧
    (s.journal.grantable .splitDone = false → exec .splitApply s = .next s) ∧
    ((∀ n, s.journal.grantable (.recovery n) = false) → exec .recoveryVoid s = .next s) ∧
    (s.journal.grantable .start = false → exec .start s = .next s)

/-! ### The media channel's answers -/

/-- An answer counts before the 60th tick after the issue; at that tick the operation has MEDIA_ERROR, whatever its
requester, and a later answer, OK or not, changes nothing, as an answer of no operation in flight does (R75, R86; log 12,
DEDUCED). -/
def Obligations.MediaAnswersAreWaitedFor : Prop :=
  (∀ s : State, (∀ f, s.media.channel = some f → f.issued + 60 ≤ s.clock.tick) → ∀ (data : List Byte)
      (page : Option (List Byte)), ∀ c ∈ [Instr.appendProgramOk, .appendProgramMediaError, .trailerOk, .trailerMediaError,
        .readFetchOk data, .readFetchMediaError, .verifyFetchOk data, .verifyFetchMediaError, .journalReadFetchDone page,
        .scrubCompleteOk, .scrubMediaError, .journalWriteOk, .journalWriteMediaError],
    exec c s = .next s) ∧
  ∀ (s : State) (op : MediaOp) (issued : Nat), s.media.channel = some ⟨op, issued⟩ →
    let failed : State := (match op.requester with
      | .append i => s.request (.mediaFault i)
      | .trailer i => s.request (.mediaFault i)
      | .read ref => s.readFault ref
      | .verify ref => s.verifyFault ref op.count
      | .journalRead ref => s.pageFetched ref none
      | .scrub n => s.scrubFault n
      | .journalWrite _ => s.pageFault).complete
    let answer : Instr := match op.requester with
      | .append _ => .appendProgramMediaError
      | .trailer _ => .trailerMediaError
      | .read _ => .readFetchMediaError
      | .verify _ => .verifyFetchMediaError
      | .journalRead _ => .journalReadFetchDone none
      | .scrub _ => .scrubMediaError
      | .journalWrite _ => .journalWriteMediaError
    exec .mediaAnswerLimit s = .next (if issued + 60 ≤ s.clock.tick then failed else s) ∧
    exec answer s = .next (if issued + 60 ≤ s.clock.tick then s else failed)

/-! ### Archive time -/

/-- A tick: the tick count grows by 1 (R89); archive seconds step by the first row of R98 that applies and stay at their
greatest value (R99); the holdover counter grows up to the holdover time, and in the same step a LOCKED clock at it becomes
HOLDOVER (R100), the timers of the stores are judged (R38, R54) and the page write (R157). HOLDOVER as a row of its own makes
the same judgement (log 2). R157 is judged at each record the tick enters and at its end (log 31). The tick count after its last
value is a free value (log 7). -/
def Obligations.TicksMoveTheClock : Prop :=
  ∀ s : State, s.live = true →
    let c := s.clock
    let aged : Nat := if c.holdover < s.settings.holdoverTime then c.holdover + 1 else c.holdover
    let stepped : Clock :=
      if 4294967295 ≤ c.seconds then c
      else if 0 < c.advance then { c with seconds := min 4294967295 (c.seconds + 2), advance := c.advance - 1 }
      else if 0 < c.retard ∧ c.skip = true then { c with retard := c.retard - 1, skip := false }
      else if 0 < c.retard then { c with seconds := c.seconds + 1, skip := true }
      else { c with seconds := c.seconds + 1 }
    let relaxed (u : State) : State :=
      if u.clock.state = .locked ∧ u.settings.holdoverTime ≤ u.clock.holdover then
        u.changeClock { u.clock with state := .holdover }
      else u
    let judged (u : State) : State :=
      (((((relaxed u).judgeTimer 0).judgeTimer 1).judgeTimer 2).judgeTimer 3).judgePage
    (c.tick < 2 ^ 64 - 1 →
      exec .tick s = .next (judged { s with clock := { stepped with tick := c.tick + 1, holdover := aged } })) ∧
    (2 ^ 64 - 1 ≤ c.tick →
      ∃ v : Nat, v < 2 ^ 64 ∧ exec .tick s = .next (judged { s with
        clock := { stepped with tick := v, holdover := aged }, freeCount := s.freeCount + 1 })) ∧
    exec .holdover s = .next (relaxed s) ∧
    ∀ t : State, exec .tick s = .next t → c.state = .locked → s.settings.holdoverTime ≤ aged →
      t.clock.state = .holdover ∧ t.clock.holdover = aged

/-- TIME: absorbed within 16 ticks of the link's last taken mark; otherwise taken, the offset compared with 30 seconds
either way, and the clock steered or a far mark counted; the third in a row makes the clock DRIFT (R94 to R97). -/
def Obligations.TimeMarksSteerTheClock : Prop :=
  ∀ (s : State) (h : HandOver) (c : Capsule) (n : Node) (reference : Nat), c.master = .node n →
    Reaches s h c (.time reference) [] →
    let k := s.clock
    let d : Int := (reference : Int) - (k.seconds : Int)
    let near : Bool := decide (-30 ≤ d ∧ d ≤ 30)
    let k' : Clock :=
      if near then { k with
        advance := if 2 ≤ d then d.toNat else 0, retard := if d ≤ -2 then (-d).toNat else 0, skip := false
        streak := 0, farMark := none, holdover := 0, state := .locked }
      else { k with
        streak := min 3 (k.streak + 1), farMark := some ⟨reference, k.seconds⟩
        state := if 2 ≤ k.streak then .drift else k.state }
    exec (.time h) s =
      if (s.link n).spacing.any (fun t => decide (k.tick < t + 16)) then
        .next ((s.takeMark c.master).finish c s.cport.role .absorbed (le 4 k.seconds ++ le 1 k.state.code))
      else
        .next ((((s.takeMark c.master).withLink n
            { (s.takeMark c.master).link n with spacing := some k.tick }).changeClock k').finish c s.cport.role .ok
          (leInt 8 d ++ flag (!near) ++ le 4 k'.seconds ++ le 1 k'.advance ++ le 4 k'.retard ++ le 1 k'.streak ++
            le 1 k'.state.code))

/-- ADOPT: the checks of R101 in their order, then archive seconds stepped forward or held back by a pending retard, the
clock LOCKED afresh, CLOCK_STATE, and the CLOCK_ADOPTED record (R102, R103, R152). The record's own archive seconds are
those after the step (log 25). -/
def Obligations.AdoptActsOnTheFarMark : Prop :=
  ∀ (s : State) (h : HandOver) (c : Capsule), Reaches s h c .adopt [] →
    let no (code : Code) : Host.Outcome State Fault Refusal := .next (s.answered c .refused code none [])
    exec (.adopt h) s =
      if s.clock.state ≠ .drift then no .clockNotDrift
      else match s.clock.farMark with
        | none => no .clockNotDrift
        | some m =>
          let d : Int := (m.reference : Int) - (m.receipt : Int)
          if d < -86400 then no .stepRange
          else if 56 ≤ s.journal.buffer.length then no .journalBacklog
          else if s.journal.pages ≤ s.journal.counter then no .journalFull
          else
            let seconds : Nat := if 0 < d then min 4294967295 (s.clock.seconds + d.toNat) else s.clock.seconds
            let retard : Nat := if d < 0 then (-d).toNat else 0
            .next (((((s.takeMark c.master).withClock ⟨seconds, s.clock.tick, .locked, 0, retard, false, 0, none,
              0⟩).raise .clockState none).record (.master c.master)
                (.clockAdopted s.clock.seconds seconds d retard m)).judgePage.finish c s.cport.role .ok
                  (leInt 8 d ++ le 4 seconds ++ le 4 retard))

/-- A change of clock state raises CLOCK_STATE and enters a CLOCK_STATE record, or, with no place, sets the unrecorded-change
mark or counts one more change in it; in an entirely full region it is counted as an overflow (R103, R156, R161). The mark
is given up for one record at the next place (R156). R157 is judged at the record, before what else the step enters (log 31). -/
def Obligations.ClockChangesAreRecorded : Prop :=
  (∀ (s : State) (k : Clock),
    (k.state = s.clock.state → s.changeClock k = { s with clock := k }) ∧
    (k.state ≠ s.clock.state →
      let u := (s.withClock k).raise .clockState none
      s.changeClock k = match s.journal.mark with
        | some m => u.withJournal { s.journal with mark := some ⟨m.before, m.count + 1⟩ }
        | none =>
          if s.journal.buffer.length < 64 then (u.record .device (.clockState s.clock.state k.state 1)).judgePage
          else if s.journal.pages ≤ s.journal.counter then
            u.withJournal { s.journal with overflow := min (s.journal.overflow + 1) 4294967295 }
          else u.withJournal { s.journal with mark := some ⟨s.clock.state, 1⟩ })) ∧
  ∀ s : State, s.live = true →
    (∀ m, s.journal.mark = some m → (s.journal.buffer.length < 64 ∨ s.journal.pages ≤ s.journal.counter) →
      let u := s.record .device (.clockState m.before s.clock.state m.count)
      exec .coalescedClockState s = .next (u.withJournal { u.journal with mark := none }).judgePage) ∧
    ((s.journal.mark = none ∨ (64 ≤ s.journal.buffer.length ∧ s.journal.counter < s.journal.pages)) →
      exec .coalescedClockState s = .next s)

/-! ### Retention policy -/

/-- CLASS_SET: the checks of R110 in their order, and the entry written, its period brought to at most 36,500 days; while the
latch is set only an entry that loosens nothing is taken, with a CLASS_SET record (R111, R112). CLASS_GET reports the entry
and the latch (R114). POLICY_FIX sets the latch once, when a class is defined, with its record of all entries (R113). -/
def Obligations.ClassesAreSetAndFixed : Prop :=
  (∀ (s : State) (h : HandOver) (c : Capsule) (cls : Nat) (defined forever : Bool) (mode period : Nat),
    Reaches s h c (.classSet cls defined forever mode period) [] →
    let old : ClassEntry := (s.classes.entries[cls]?).getD ⟨false, 0, false, false⟩
    let new : ClassEntry := ⟨defined, min 36500 period, forever, decide (mode = 1)⟩
    let fields (e : ClassEntry) : List Byte :=
      flag e.defined ++ flag e.permanent ++ flag e.complianceOnly ++ le 4 e.period ++ flag s.classes.fixed
    let no (code : Code) (x : List Byte) : Host.Outcome State Fault Refusal :=
      .next (s.answered c .refused code none x)
    let loosens : Prop := old.defined = true ∧ (new.defined = false ∨ new.period < old.period ∨
      (old.permanent = true ∧ new.permanent = false) ∨ (old.complianceOnly = true ∧ new.complianceOnly = false))
    let u := (s.takeMark c.master).withClasses { s.classes with entries := s.classes.entries.set cls new }
    exec (.classSet h) s =
      if 15 < cls ∨ 1 < mode then no .badClass []
      else if s.classes.fixed = true ∧ loosens then no .classShorten (fields old)
      else if s.journal.pages - 8 ≤ s.journal.used then no .journalFull (fields old)
      else if s.classes.fixed = true ∧ 56 ≤ s.journal.buffer.length then no .journalBacklog (fields old)
      else if s.classes.fixed = true then
        .next (((u.record (.master c.master) (.classSet cls old new)).judgePage).finish c s.cport.role .ok (fields new))
      else .next (u.finish c s.cport.role .ok (fields new))) ∧
  (∀ (s : State) (h : HandOver) (c : Capsule) (cls : Nat), Reaches s h c (.classGet cls) [] →
    let e : ClassEntry := (s.classes.entries[cls]?).getD ⟨false, 0, false, false⟩
    exec (.classGet h) s =
      if 15 < cls then .next (s.answered c .refused .badClass none [])
      else .next ((s.takeMark c.master).finish c s.cport.role .ok
        (flag e.defined ++ flag e.permanent ++ flag e.complianceOnly ++ le 4 e.period ++ flag s.classes.fixed))) ∧
  ∀ (s : State) (h : HandOver) (c : Capsule), Reaches s h c .policyFix [] →
    let no (code : Code) : Host.Outcome State Fault Refusal := .next (s.answered c .refused code none [])
    let n := (s.classes.entries.filter (·.defined)).length
    exec (.policyFix h) s =
      if s.classes.fixed = true then no .alreadyFixed
      else if n = 0 then no .noClasses
      else if s.journal.pages - 8 ≤ s.journal.used then no .journalFull
      else if 56 ≤ s.journal.buffer.length then no .journalBacklog
      else .next (((((s.takeMark c.master).withClasses { s.classes with fixed := true }).record (.master c.master)
        (.policyFixed s.classes.entries)).judgePage).finish c s.cport.role .ok (le 1 n))

/-- EXTEND: the checks of R117, the range brought to 256 numbers and the days to 1 to 36,500; every retained extent of the
range not at its end gets the new floor, every other extent stays; the receipt and the EXTENDED record carry the counts
(R118, R119). -/
def Obligations.ExtendRaisesFloors : Prop :=
  ∀ (s : State) (h : HandOver) (c : Capsule) (first sent : Nat) (forever : Bool) (sentDays : Nat),
    Reaches s h c (.extend first sent forever sentDays) [] →
    let no (code : Code) : Host.Outcome State Fault Refusal := .next (s.answered c .refused code none [])
    let last := if 256 < sent - first + 1 then first + 255 else sent
    let days := if forever then 65535 else max 1 (min 36500 sentDays)
    let ends (r : Extent) : Bool := if forever then s.expiry r == 65535 else s.expiry r == 65535 || s.expiry r == 65534
    let floor (r : Extent) : Nat := if forever then 65535 else min 65534 (s.expiry r + days)
    let numbers := (List.range (last + 1 - first)).map (first + ·)
    let count (p : Option Extent → Bool) : Nat := (numbers.filter (fun n => p (s.extent n))).length
    let extended := count (·.any (fun r => r.retained && !ends r))
    let unchanged := count (·.any (fun r => r.retained && ends r))
    let notRetained := count (·.any (fun r => !r.retained))
    let notPresent := count (·.isNone)
    let scrubbing := count (·.any (fun r => r.isScrubbing && !ends r))
    (sent < first → exec (.extend h) s = no .badRange) ∧
    (first ≤ sent → s.journal.pages - 8 ≤ s.journal.used → exec (.extend h) s = no .journalFull) ∧
    (first ≤ sent → s.journal.used < s.journal.pages - 8 → 56 ≤ s.journal.buffer.length →
      exec (.extend h) s = no .journalBacklog) ∧
    (first ≤ sent → s.journal.used < s.journal.pages - 8 → s.journal.buffer.length < 56 →
      ∃ u : State, u = { s.takeMark c.master with et := u.et } ∧ u.et.keys = s.et.keys ∧ u.et.next = s.et.next ∧
        u.et.records.length = s.et.records.length ∧
        (∀ n, u.extent n = (s.extent n).map (fun r =>
          if first ≤ n ∧ n ≤ last ∧ r.retained = true ∧ ends r = false then { r with floor := some (floor r) } else r)) ∧
        exec (.extend h) s = .next ((u.record (.master c.master)
          (.extended first last days extended unchanged notRetained notPresent)).judgePage.finish c s.cport.role .ok
            (le 4 last ++ le 2 extended ++ le 2 unchanged ++ le 2 notRetained ++ le 2 notPresent ++ le 2 scrubbing)))

/-! ### Legal holds -/

/-- HOLD_PLACE: the checks of R126 in their order; the hold joins the end of the list and the revision grows (R121, R127),
and an extent at SCRUBBING that it covers is noted late in the hold, a HOLD_LATE record and the event (R128). HOLD_LIFT
takes a hold off the list, with its record (R131); HOLD_LIST reports one position and changes nothing (R133). The receipt's fields that the
outcome does not have are log 9 (DEDUCED); the page write is judged once, after both records of a late placement (log 31). -/
def Obligations.HoldsArePlacedLiftedListed : Prop :=
  (∀ (s : State) (h : HandOver) (c : Capsule) (matter : Nat) (scope : Scope), Reaches s h c (.holdPlace matter scope) [] →
    let no (code : Code) (x : List Byte) : Host.Outcome State Fault Refusal :=
      .next (s.answered c .refused code none x)
    let n := s.holds.list.length
    let accepted : Bool := scope.group.all (fun g => decide (g ≤ 4095)) &&
      scope.days.all (fun p => decide (p.1 ≤ p.2)) && scope.extents.all (fun p => decide (p.1 ≤ p.2))
    let late : Option Extent :=
      (s.et.records.find? (fun r => r.state == .disposing && r.sub == some .scrubbing)).filter scope.covers
    let new : Hold := ⟨matter, s.clock.seconds, scope, if late.isSome then 1 else 0⟩
    let revision := (s.holds.revision + 1) % 2 ^ 32
    let u := ((s.takeMark c.master).withHolds ⟨s.holds.list ++ [new], revision⟩).record (.master c.master)
      (.holdPlaced matter scope n)
    let v := match late with
      | none => u
      | some r => (u.record (.master c.master) (.holdLate matter r.number r.group (r.commitSecond.getD 0 / 86400)
          (r.attempts.getD 0))).raise .holdLate (some .cport)
    exec (.holdPlace h) s =
      if matter = 0 then no .badMatter []
      else if accepted = false then no .badScope []
      else match s.holds.list.findIdx? (fun x => x.matter == matter), s.holds.list.find? (fun x => x.matter == matter) with
        | some i, some x => no .matterActive (holdFields i n s.holds.revision x 0)
        | _, _ =>
          if 64 ≤ n then no .holdListFull []
          else if 56 ≤ s.journal.buffer.length then no .journalBacklog []
          else if s.journal.pages ≤ s.journal.counter then no .journalFull []
          else .next (v.judgePage.finish c s.cport.role .ok
            (holdFields n (n + 1) revision new ((late.map (·.number)).getD 0)))) ∧
  (∀ (s : State) (h : HandOver) (c : Capsule) (matter : Nat), Reaches s h c (.holdLift matter) [] →
    let no (code : Code) : Host.Outcome State Fault Refusal := .next (s.answered c .refused code none [])
    let revision := (s.holds.revision + 1) % 2 ^ 32
    exec (.holdLift h) s =
      if matter = 0 then no .badMatter
      else match s.holds.list.findIdx? (fun x => x.matter == matter), s.holds.list.find? (fun x => x.matter == matter) with
        | some i, some x =>
          if 56 ≤ s.journal.buffer.length then no .journalBacklog
          else if s.journal.pages ≤ s.journal.counter then no .journalFull
          else .next (((((s.takeMark c.master).withHolds ⟨s.holds.list.eraseIdx i, revision⟩).record (.master c.master)
            (.holdLifted matter x.placed x.scope x.late i)).judgePage).finish c s.cport.role .ok
              (holdFields i (s.holds.list.length - 1) revision x 0))
        | _, _ => no .noMatter) ∧
  (∀ (s : State) (h : HandOver) (c : Capsule) (index : Nat), Reaches s h c (.holdList index) [] →
    exec (.holdList h) s = .next ((s.takeMark c.master).finish c s.cport.role
      (if index < s.holds.list.length then .ok else .notFound)
      (match s.holds.list[index]? with
       | some x => holdFields index s.holds.list.length s.holds.revision x 0
       | none => holdFields 0 s.holds.list.length s.holds.revision ⟨0, 0, ⟨none, none, none⟩, 0⟩ 0))) ∧
  ∀ (position active revision late : Nat) (x : Hold), holdFields position active revision x late =
    le 1 position ++ le 1 active ++ le 4 revision ++ le 4 x.matter ++ le 4 x.placed ++ x.scope.bytes ++ le 1 x.late ++
      le 4 late

/-! ### Disposition -/

/-- DISPOSE: the checks of R137, the range brought to 256 numbers, and one outcome for each number by the first row of R138
that applies; the extents QUEUED become DISPOSING in increasing order at the end of the queue (R138, R140, R141). Without
any, it is DONE at once. A full queue ends the examination, at its start or in the middle of the range: the numbers after the
one that fills it are not examined, and the receipt names the last examined (R139). -/
def Obligations.DisposeClassifies : Prop :=
  ∀ (s : State) (h : HandOver) (c : Capsule) (first sent : Nat), Reaches s h c (.dispose first sent) [] →
    let no (code : Code) : Host.Outcome State Fault Refusal := .next (s.answered c .refused code none [])
    let last := if 256 < sent - first + 1 then first + 255 else sent
    let node : Prop := c.master ≠ .cport
    let outcome (n : Nat) : Outcome := match s.extent n with
      | none => .notPresent
      | some r =>
        if r.state = .opened ∨ r.state = .closing ∨ r.state = .voided then .notCommitted
        else if r.state = .disposing ∨ r.state = .released then .already
        else if r.state = .disposalFailed ∧ node then .failedPrior
        else if s.expiry r = 65535 ∨ s.clock.seconds / 86400 ≤ s.expiry r then .notExpired
        else if s.holds.list.any (fun x => x.scope.covers r) = true then .held
        else if node ∧ s.custodianOnly r = true then .complianceOnly
        else .queued
    let numbers := (List.range (last + 1 - first)).map (first + ·)
    let queuedOf (l : List Nat) : List Nat := l.filter (fun n => outcome n == .queued)
    let countsOf (l : List Nat) : List Nat := [Outcome.notPresent, .notCommitted, .already, .failedPrior, .notExpired, .held, .complianceOnly,
      .queued].map (fun o => (l.filter (fun n => outcome n == o)).length)
    let fields (last : Nat) (counts : List Nat) : List Byte :=
      le 4 first ++ le 4 last ++ (counts.map (le 2)).flatten ++ [0, 0, 0, 0, 0, 0]
    (sent < first → exec (.dispose h) s = no .badRange) ∧
    (first ≤ sent → s.journal.pages - 8 ≤ s.journal.used → exec (.dispose h) s = no .journalFull) ∧
    (first ≤ sent → s.journal.used < s.journal.pages - 8 → 1024 ≤ s.engine.queue.length →
      exec (.dispose h) s =
        .next ((s.takeMark c.master).finish c s.cport.role .ok (fields 0 (List.replicate 8 0)))) ∧
    ∀ k, first ≤ sent → s.journal.used < s.journal.pages - 8 → s.engine.queue.length < 1024 → 1 ≤ k → k ≤ numbers.length →
      s.engine.queue.length + (queuedOf (numbers.take (k - 1))).length < 1024 →
      (k = numbers.length ∨ s.engine.queue.length + (queuedOf (numbers.take k)).length = 1024) →
      let queued := queuedOf (numbers.take k)
      let counts := countsOf (numbers.take k)
      let examined := first + (k - 1)
      exec (.dispose h) s =
        if queued = [] then .next ((s.takeMark c.master).finish c s.cport.role .ok (fields examined counts))
        else match s.freeSlot c.master with
          | none => no .slotsFull
          | some i => .next (({ s.takeMark c.master with
              et := { s.et with records := s.et.records.map (fun (x : Extent) =>
                if x.number ∈ queued ∧ (x.state = ExtState.committed ∨ x.state = ExtState.disposalFailed) then
                  { x with state := .disposing, sub := some .queued, attempts := some 0 }
                else x) }
              engine := { s.engine with
                queue := s.engine.queue ++ queued.map (fun n => (⟨n, .master c.master, some ⟨c.master, i⟩⟩ : QueueEntry)) } }).begin c
              s.cport.role i (.dispose ⟨first, examined, counts, queued.length, 0, 0, 0⟩) (fields examined counts))

/-- The IDLE engine takes the first entry as head (R142): at SCRUB_NEXT it waits for its readers, and then the issue-time
check places its SCRUB over data and trailer or returns it to COMMITTED, counted (R143, R148). READERS_DRAINED makes the
same judgement. A slot counts each exit and ends with the last (R148). -/
def Obligations.HeadsAreTaken : Prop :=
  (∀ (s : State) (e : QueueEntry) (rest : List QueueEntry) (r : Extent), s.engine.queue = e :: rest →
    s.extent e.ext = some r → r.state = .disposing →
    let judged (u : State) : State :=
      if s.expired r = true ∧ s.isHeld r = false then
        (u.withEngine { s.engine with stage := .placed }).place ⟨.scrub e.ext, none, r.start, r.count + 1⟩
      else (((u.modExtent e.ext (fun x =>
        if x.state = .disposing ∧ x.sub ≠ some .scrubbing then
          { x with state := .committed, sub := none, attempts := none }
        else x)).withEngine { s.engine with
          queue := s.engine.queue.filter (fun q => q.ext != e.ext) }).countExit e .returned).setStage .idle
    (s.taking = true → s.engine.stage = .idle → r.sub = some .queued →
      let u := s.modExtent e.ext (fun x =>
        if x.state = .disposing ∧ x.sub = some .queued then { x with sub := some .scrubNext } else x)
      exec .headTake s =
        .next (if 0 < s.readerCount e.ext then u.withEngine { s.engine with stage := .readers } else judged u)) ∧
    (s.engine.stage = .readers → s.readerCount e.ext = 0 → r.sub ≠ some .scrubbing →
      exec .readersDrained s = .next (judged s)) ∧
    (s.engine.stage = .readers → 0 < s.readerCount e.ext → exec .readersDrained s = .next s)) ∧
  ∀ (s : State) (e : QueueEntry) (x : Exit) (ref : SlotRef) (h : Held) (w : DisposeWork), e.slot = some ref →
    s.slot ref = some (.running h (.dispose w)) →
    let w' : DisposeWork := match x with
      | .released => { w with released := w.released + 1 }
      | .returned => { w with returned := w.returned + 1 }
      | .failed => { w with failed := w.failed + 1 }
    s.countExit e x =
      if w'.released + w'.returned + w'.failed = w.queued then
        (s.setSlot ref (.running h (.dispose w'))).endSlot ref ⟨.ok, le 4 w.first ++ le 4 w.last ++
          (w.counts.map (le 2)).flatten ++ le 2 w'.released ++ le 2 w'.returned ++ le 2 w'.failed⟩
      else s.setSlot ref (.running h (.dispose w'))

/-- A SCRUB with OK requests the place of DISPOSED, which releases the head (R145); with MEDIA_ERROR the head is judged again
with one more attempt, or returned at general exhaustion, without a record, and after the third failure a place for
DISPOSAL_FAILED is requested, which raises the event (R146, R149). An entry that leaves the queue is counted (R141, R148). -/
def Obligations.ScrubsEnd : Prop :=
  (∀ (s : State) (n first blocks : Nat) (o : Option Master), s.answering = some ⟨.scrub n, o, first, blocks⟩ →
    exec .scrubCompleteOk s = .next ((s.setStage .recording).request .disposed).complete ∧
    ∀ r attempts e rest, s.extent n = some r → r.state = .disposing → r.sub = some .scrubbing →
      r.attempts = some attempts → s.engine.queue = e :: rest → e.ext = n →
      let u := s.modExtent n (fun x => if x.state = .disposing ∧ x.sub = some .scrubbing then
        { x with sub := some .scrubNext, attempts := x.attempts.map (· + 1) } else x)
      exec .scrubMediaError s = .next (
        if 2 ≤ attempts then ((s.setStage .recording).request .disposalFailed).complete
        else if s.journal.used < s.journal.pages - 8 ∧ s.expired r = true ∧ s.isHeld r = false then
          ((u.setStage .placed).place ⟨.scrub n, none, r.start, r.count + 1⟩).complete
        else (((u.modExtent n (fun x => if x.state = .disposing ∧ x.sub ≠ some .scrubbing then
            { x with state := .committed, sub := none, attempts := none } else x)).leaveQueue e .returned).setStage
              .idle).complete)) ∧
  (∀ (s : State) (e : QueueEntry) (rest : List QueueEntry) (r : Extent), s.engine.queue = e :: rest →
    s.extent e.ext = some r → r.state = .disposing → r.sub = some .scrubbing →
    let u := s.record e.origin
      (.disposed r.number r.key r.group r.cls (r.commitSecond.getD 0) (s.expiry r) (r.check.getD 0)
        (r.integrity.getD .unverified) (r.attempts.getD 0 + 1))
    let v := u.modExtent e.ext (fun x =>
      if x.state = .disposing ∧ x.sub = some .scrubbing then { x with
        state := .released, sub := none, attempts := none, disposalSecond := some s.clock.seconds
        dispSeq := if s.journal.buffer.length < 64 then some s.journal.nextSeq else none }
      else x)
    s.settle .disposed = (v.leaveQueue e .released).setStage .idle ∧
    let w := (s.record e.origin (.disposalFailed r.number r.group r.cls (r.commitSecond.getD 0) 3)).modExtent e.ext
      (fun x => if x.state = .disposing ∧ x.sub = some .scrubbing then
        { x with state := .disposalFailed, sub := none, attempts := some 3 } else x)
    s.settle .disposalFailed = ((w.leaveQueue e .failed).raise .disposalFailed (some .cport)).setStage .idle) ∧
  (∀ s : State,
    (s.journal.grantable .disposed = true →
      exec .disposed s = .next ((s.dropWait .disposed).settle .disposed).judgePage) ∧
    (s.journal.grantable .disposalFailed = true →
      exec .disposalFailed s = .next ((s.dropWait .disposalFailed).settle .disposalFailed).judgePage)) ∧
  ∀ (v : State) (e : QueueEntry) (x : Exit), v.leaveQueue e x = (v.withEngine { v.engine with
    queue := v.engine.queue.filter (fun q => q.ext != e.ext) }).countExit e x

/-! ### Stores -/

/-- SPLIT: the checks of R30 in their order, then every store SPLITTING. Once no store holds an open extent, which may be at
acceptance itself, the split asks for the place of SPLIT_DONE, and not before (R30, R32). At its place every store is halved
at a boundary of 64 blocks, its slot ends OK and SPLIT_DONE is raised (R32); after 600 ticks it fails and every SPLITTING
store is ACTIVE again (R33). A step that so enters a record judges the page write (R157). -/
def Obligations.StoresAreSplit : Prop :=
  (∀ (s : State) (h : HandOver) (c : Capsule) (target : Nat), c.master = .cport → Reaches s h c (.split target) [] →
    let no (code : Code) : Host.Outcome State Fault Refusal := .next (s.answered c .refused code none [])
    let stores := s.storeMap.stores
    exec (.split h) s =
      if target ≠ 2 * stores.length ∨ 4 ≤ stores.length then no .splitShape
      else if s.storeMap.split.isSome then no .storeBusy
      else if stores.any (fun st => st.state == .full || decide (st.limit < st.frontier + 8192)) = true then no .tooSmall
      else if s.journal.pages - 8 ≤ s.journal.used then no .journalFull
      else match s.freeSlot .cport with
        | none => no .slotsFull
        | some i =>
          let u := (s.withStoreMap { s.storeMap with
            stores := stores.map (fun st => { st with state := .splitting })
            split := some ⟨target, s.clock.tick, i⟩ }).begin c s.cport.role i .split []
          .next (u.askSplit.judgeSince u)) ∧
  (∀ s : State, s.askSplit =
    if s.storeMap.split = none ∨ (∃ st ∈ s.storeMap.stores, st.state = .splitting ∧ st.openExtent ≠ none) ∨
        .splitDone ∈ s.journal.waits then s
    else if s.journal.waits = [] ∧ s.journal.mark = none ∧
        (s.journal.buffer.length < 64 ∨ s.journal.pages ≤ s.journal.counter) then s.settle .splitDone
    else { s with journal := { s.journal with waits := s.journal.waits ++ [.splitDone] } }) ∧
  (∀ s t : State, t.judgeSince s = if t.journal.nextSeq = s.journal.nextSeq then t else t.judgePage) ∧
  (∀ s : State, s.journal.grantable .splitDone = true →
    exec .splitApply s = .next ((s.dropWait .splitDone).settle .splitDone).judgePage) ∧
  ∀ (s : State) (p : PendingSplit), s.storeMap.split = some p →
    let old := s.storeMap.stores
    let half (st : Store) : Nat := st.frontier + (st.limit - st.frontier) / 2 / 64 * 64
    let u := s.record (.master .cport) (.splitDone old.length (2 * old.length) (old.map half))
    let v := u.withStoreMap { s.storeMap with
      stores := old.map (fun st => { st with limit := half st, state := .active }) ++
        old.map (fun st => ⟨half st, st.limit, half st, 0, none, .active⟩)
      split := none }
    s.settle .splitDone = (v.endSlot ⟨.cport, p.slot⟩
      ⟨.ok, le 1 (2 * old.length) ++ [0, 0, 0] ++ ((old.map half).map (le 4)).flatten⟩).raise .splitDone none ∧
    exec .splitTimeout s =
      if p.accepted + 600 ≤ s.clock.tick then
        .next (((s.withStoreMap { s.storeMap with
          stores := s.storeMap.stores.map (fun st => if st.state = .splitting then { st with state := .active } else st)
          split := none }).dropWait .splitDone).endSlot ⟨.cport, p.slot⟩ ⟨.splitTimeout, []⟩)
      else .next s

/-! ### Reports -/

/-- QUERY and FIND return the record of a number or key with the reader count and the derived conditions of the moment, 76
bytes whose fields stand where 13.3 puts them (R19, R20; absent parts read 0, log 9), and STATUS one of seven sections with
the fields of 13.4 in order; none of them changes anything but its receipt (R18 to R21, R36, R88, R107, R151, R164, R174).
The codes of the media kinds and slot states are free values (log 7), an emitted flag's yes is 0x01 (log 28), and the
absent turn order, ticks left and head are log 26. JOURNAL_READ answers from the buffer, or fetches the last WRITTEN page
that begins at or below the sequence into the slot's page buffer, and takes the record from its place in the page (R162,
R177). -/
def Obligations.ReportsChangeNothing : Prop :=
  (∀ (s : State) (h : HandOver) (c : Capsule) (n : Nat), Reaches s h c (.query n) [] →
    let yes (code : Code) (fields : List Byte) : Host.Outcome State Fault Refusal :=
      .next ((s.takeMark c.master).finish c s.cport.role code fields)
    exec (.query h) s =
      if n = 0 ∨ s.et.next ≤ n then yes .notFound []
      else match s.extent n with
        | none => yes .evicted []
        | some r => yes .ok (s.extentRecord r)) ∧
  (∀ (s : State) (h : HandOver) (c : Capsule) (key : Nat), Reaches s h c (.find key) [] →
    exec (.find h) s =
      if key = 0 then .next (s.answered c .refused .badKey none [])
      else match (s.keyOwner key).bind s.extent with
        | none => .next ((s.takeMark c.master).finish c s.cport.role .notFound [])
        | some r => .next ((s.takeMark c.master).finish c s.cport.role .ok (s.extentRecord r))) ∧
  (∀ (s : State) (r : Extent), (s.extentRecord r).length = 76) ∧
  (∀ (s : State) (h : HandOver) (c : Capsule) (n : Nat), Reaches s h c (.status n) [] →
    (6 < n → exec (.status h) s = .next (s.answered c .refused .badRange none [])) ∧
    (n ≤ 6 → ∃ bytes, s.section c.master n = some bytes ∧
      exec (.status h) s = .next ((s.takeMark c.master).finish c s.cport.role .ok bytes))) ∧
  (∀ (s : State) (r : Extent),
    let part (o n : Nat) : List Byte := ((s.extentRecord r).drop o).take n
    let bit (k : Nat) (b : Bool) : Nat := if b then 2 ^ k else 0
    part 0 4 = le 4 r.number ∧ part 4 8 = le 8 r.key ∧ part 12 2 = le 2 r.group ∧ part 14 1 = le 1 r.store ∧
    part 15 1 = le 1 r.cls ∧ part 16 1 = [match r.opener with | .a => 1 | .b => 2] ∧
    part 17 1 = [match r.state with
      | .opened => 1 | .closing => 2 | .committed => 3 | .disposing => 4 | .disposalFailed => 5 | .released => 6
      | .voided => 7] ∧
    part 18 2 = le 2 (bit 0 r.lastActivity.isSome + bit 1 r.inFlight.isSome + bit 2 r.running.isSome +
      bit 3 r.commitSecond.isSome + bit 4 r.provisional.isSome + bit 5 r.check.isSome + bit 6 r.integrity.isSome +
      bit 7 r.floor.isSome + bit 8 r.lastVerified.isSome + bit 9 r.sub.isSome + bit 10 r.attempts.isSome +
      bit 11 r.disposalSecond.isSome + bit 12 r.voidCause.isSome + bit 13 r.dispSeq.isSome) ∧
    part 20 4 = le 4 r.start ∧ part 24 2 = le 2 r.count ∧ part 26 1 = le 1 (s.readerCount r.number) ∧
    part 27 1 = [match r.inFlight with | some .append => 1 | some .close => 2 | _ => 0] ∧
    part 28 8 = le 8 (r.lastActivity.getD 0) ∧ part 36 4 = le 4 (r.running.getD 0).toNat ∧
    part 40 4 = le 4 (r.commitSecond.getD 0) ∧ part 44 1 = [if r.provisional = some true then 1 else 0] ∧
    part 45 1 = [match r.integrity with | some .good => 1 | some .damaged => 2 | _ => 0] ∧
    part 46 2 = le 2 (r.floor.getD 0) ∧ part 48 4 = le 4 (r.check.getD 0).toNat ∧
    part 52 4 = le 4 (r.lastVerified.getD 0) ∧
    part 56 1 = [match r.sub with | some .queued => 1 | some .scrubNext => 2 | some .scrubbing => 3 | none => 0] ∧
    part 57 1 = le 1 (r.attempts.getD 0) ∧
    part 58 1 = [match r.voidCause with
      | some .timeout => 1 | some .abandoned => 2 | some .mediaFault => 3 | some .interrupted => 4 | none => 0] ∧
    part 59 1 = le 1 (if r.state = .committed ∨ r.state = .disposing ∨ r.state = .disposalFailed then
      bit 0 (s.expired r) + bit 1 (s.isHeld r) + bit 2 (s.custodianOnly r) + 128 else 0) ∧
    part 60 2 = (if r.state = .committed ∨ r.state = .disposing ∨ r.state = .disposalFailed then le 2 (s.expiry r)
      else [0, 0]) ∧
    part 62 2 = [0, 0] ∧ part 64 4 = le 4 (r.disposalSecond.getD 0) ∧ part 68 8 = le 8 (r.dispSeq.getD 0)) ∧
  (∀ (s : State) (m : Master),
    let one (b : Byte) : List Byte := [b]
    let who (o : Master) : Byte := match o with | .node .a => 1 | .node .b => 2 | .cport => 3
    let waits (o : Master) : Nat := (s.media.waiting.filter (fun op => op.origin == some o)).length
    let scrub (op : MediaOp) : Bool := match op.requester with | .scrub _ => true | _ => false
    let page (op : MediaOp) : Bool := match op.requester with | .journalWrite _ => true | _ => false
    let head : Option QueueEntry := if s.engine.stage = .idle then none else s.engine.queue.head?
    let record : Option Extent := head.bind (fun e => s.extent e.ext)
    let j := s.journal
    let issued : Nat := if j.pageList.any (·.isIssued) then 1 else 0
    let linkBytes (l : LinkState) : List Byte :=
      flag l.up ++ le 6 l.base ++ le 6 l.limit ++ flag (decide (l.base ≤ l.limit)) ++
        le 1 (l.slots.filter (fun v => match v with | .free => true | _ => false)).length ++
        le 1 (l.slots.filter (fun v => match v with | .running _ _ => true | _ => false)).length ++
        le 1 (l.slots.filter (fun v => match v with | .finished _ _ => true | _ => false)).length ++
        le 1 (l.slots.filter (fun v => match v with | .detached _ => true | _ => false)).length
    let slotBytes (v : Slot) : List Byte := match v with
      | .free => [Config.slotStateCode 0, 0xFF, 0xFF]
      | .running h _ => [Config.slotStateCode 1] ++ le 1 h.tag.toNat ++ le 1 (field 2 1 h.capsule)
      | .finished h _ => [Config.slotStateCode 2] ++ le 1 h.tag.toNat ++ le 1 (field 2 1 h.capsule)
      | .detached _ => [Config.slotStateCode 3, 0xFF, 0xFF]
    s.section m 0 = some (le 1 s.storeMap.stores.length ++
      (match s.storeMap.split with
       | some p => le 1 p.target ++ le 2 (p.accepted + 600 - s.clock.tick)
       | none => [0, 0xFF, 0xFF]) ++
      (s.storeMap.stores.map (fun st => le 4 st.base ++ le 8 st.frontier ++ le 8 st.limit ++ le 1 st.reservation ++
        one (match st.state with | .active => 0 | .splitting => 1 | .full => 2) ++ one 0 ++ one 0 ++
        le 4 (st.openExtent.getD 0))).flatten) ∧
    s.section m 1 = some (one (match s.settings.arbiter with | .fixed => 0 | .rotating => 1) ++
      (match s.media.channel with
       | none => [0, 0xFF, 0xFF]
       | some f => flag true ++ one (Config.mediaKindCode (match f.op.requester with
           | .append _ | .trailer _ => 0
           | .read _ | .verify _ | .journalRead _ => 1
           | .scrub _ => 2
           | .journalWrite _ => 3)) ++ one (match f.op.origin with | some o => who o | none => 0xFF)) ++
      le 1 (waits (.node .a)) ++ le 1 (waits (.node .b)) ++ le 1 (waits .cport) ++
      flag (s.media.waiting.any scrub) ++ flag (s.media.waiting.any page) ++
      (match s.settings.arbiter with
       | .fixed => [0xFF, 0xFF, 0xFF]
       | .rotating => s.media.turn.map who)) ∧
    s.section m 2 = some (le 4 s.clock.seconds ++ le 2 (s.clock.seconds / 86400) ++ le 1 s.clock.state.code ++
      le 1 s.clock.advance ++ le 4 s.clock.retard ++ flag s.clock.skip ++ le 1 s.clock.streak ++
      orAbsent 4 (s.clock.farMark.map (·.reference)) ++ orAbsent 4 (s.clock.farMark.map (·.receipt)) ++
      le 4 s.clock.holdover ++ le 4 s.settings.holdoverTime ++ le 8 s.clock.tick ++
      orAbsent 4 (s.linkA.spacing.map (s.clock.tick - ·)) ++ orAbsent 4 (s.linkB.spacing.map (s.clock.tick - ·))) ∧
    s.section m 3 = some (le 2 s.engine.queue.length ++
      one (match s.engine.stage with
        | .idle => 0 | .readers => 1 | .placed => 2 | .scrubbing => 3 | .recording => 4) ++
      orAbsent 4 (head.map (·.ext)) ++
      one (match record.bind (·.sub) with
        | some .queued => 1 | some .scrubNext => 2 | some .scrubbing => 3 | none => 0xFF) ++
      orAbsent 1 (record.bind (·.attempts)) ++ orAbsent 1 (head.map (fun e => s.readerCount e.ext)) ++
      flag (decide (j.pages - 8 ≤ j.counter + issued))) ∧
    s.section m 4 = some (le 8 j.nextSeq ++
      le 8 (match j.buffer with | [] => j.nextSeq | e :: _ => e.record.seq) ++ le 1 j.buffer.length ++ le 4 j.counter ++
      le 4 (j.counter + issued) ++ le 4 j.pages ++
      le 4 (j.pageList.filter (fun e => match e with | .faulted => true | _ => false)).length ++
      one (if j.pages ≤ j.counter then 3 else if j.pages - 8 ≤ j.counter + issued then 2
        else if j.pages - j.pages / 16 ≤ j.counter + issued then 1 else 0) ++
      flag (s.media.waiting.any page || s.media.channel.any (fun f => page f.op)) ++
      orAbsent 8 (j.buffer.head?.map (·.entered)) ++ le 4 j.overflow ++ flag j.mark.isSome ++
      orAbsent 4 (j.mark.map (·.count)) ++ le 2 s.settings.partialTime) ∧
    s.section m 5 = some (le 2 s.et.records.length ++ le 8 s.et.next ++ flag s.classes.fixed ++
      le 1 s.holds.list.length ++ le 4 s.holds.revision) ∧
    s.section m 6 = some (linkBytes s.linkA ++ linkBytes s.linkB ++ ((s.slots m).map slotBytes).flatten) ∧
    (∀ (b : Bool), flag b = [if b then 1 else 0]) ∧
    ∀ n (v : Option Nat), orAbsent n v = match v with | some x => le n x | none => List.replicate n 0xFF) ∧
  (∀ (s : State) (h : HandOver) (c : Capsule) (seq : Nat), c.master = .cport → Reaches s h c (.journalRead seq) [] →
    let yes (code : Code) (fields : List Byte) : Host.Outcome State Fault Refusal :=
      .next (s.finish c s.cport.role code fields)
    (seq = 0 ∨ s.journal.nextSeq ≤ seq → exec (.journalRead h) s = yes .notFound (le 8 s.journal.nextSeq)) ∧
    (seq ≠ 0 → seq < s.journal.nextSeq →
      (∀ e, s.journal.buffer.find? (fun x => x.record.seq == seq) = some e →
        exec (.journalRead h) s = yes .ok (le 4 4294967295 ++ e.record.bytes)) ∧
      ((∀ e ∈ s.journal.buffer, e.record.seq ≠ seq) →
        (s.freeSlot .cport = none → exec (.journalRead h) s = .next (s.answered c .refused .slotsFull none [])) ∧
        ∀ i k first count, s.freeSlot .cport = some i → s.journal.pageList[k]? = some (.written first count) →
          first ≤ seq → (∀ j f n, k < j → s.journal.pageList[j]? = some (.written f n) → seq < f) →
          exec (.journalRead h) s = .next ((s.place ⟨.journalRead ⟨.cport, i⟩, some .cport, s.journal.base + k, 1⟩).begin
            c s.cport.role i (.journalRead seq k) [])))) ∧
  ∀ (s : State) (ref : SlotRef) (held : Held) (seq k first count at_ blocks : Nat) (o : Option Master),
    s.answering = some ⟨.journalRead ref, o, at_, blocks⟩ → s.slot ref = some (.running held (.journalRead seq k)) →
    s.journal.pageList[k]? = some (.written first count) →
    (∀ page, page.length = blocks * 4096 → exec (.journalReadFetchDone (some page)) s =
      .next (({ s with cport := { s.cport with
        pageBuffers := s.cport.pageBuffers.set ref.index page } }).endSlot ref
          ⟨.ok, le 4 k ++ (page.drop (128 * (seq - first))).take 128⟩).complete) ∧
    exec (.journalReadFetchDone none) s = .next (s.endSlot ref ⟨.mediaFault, le 8 seq ++ le 4 k⟩).complete

/-! ### Page writes -/

/-- A page write with OK makes its entry WRITTEN, uses the page, and takes its records out of the buffer; the places it frees
are granted in the step, the unrecorded-change mark first, then the request that began to wait first, until nothing waits
or no place is left; a split that a grant makes quiet asks in the step and takes its turn (R32, R155, R156, R159). With
MEDIA_ERROR the page is FAULTED and used and its records stay (R159). When the last page is used, JOURNAL_FULL is raised and
the waiting requests are counted and go on (R161). The partial-page time places a page write (R157; the tick judges it too,
log 2). During start-up the recoveries and START are among the waiting requests, places free or not (log 30).
R157 is judged once, after all grants of the step (log 31). -/
def Obligations.PageWritesEnd : Prop :=
  (∀ (s : State) (page at_ blocks first count : Nat) (o : Option Master) (before : List PageEntry),
    s.answering = some ⟨.journalWrite page, o, at_, blocks⟩ → s.journal.pageList = before ++ [.issued first count] →
    (∀ e ∈ before, e.isIssued = false) →
    let full : Prop := s.journal.pages ≤ s.journal.counter + 1
    let told (u : State) : State := if full then u.raise .journalFull (some .cport) else u
    let u := told (s.withJournal { s.journal with
      pageList := before ++ [.written first count], counter := s.journal.counter + 1
      buffer := s.journal.buffer.drop count })
    let v := told (s.withJournal { s.journal with
      pageList := before ++ [.faulted], counter := s.journal.counter + 1 })
    exec .journalWriteOk s = .next u.grantPlaces.judgePage.complete ∧
    exec .journalWriteMediaError s = .next (
      if full then v.grantPlaces.judgePage.complete else v.judgePage.complete)) ∧
  (∀ s : State,
    let open_ : Prop := s.journal.buffer.length < 64 ∨ s.journal.pages ≤ s.journal.counter
    (∃ n, s.journal.waits.length < n ∧ s.grantPlaces = s.grantMark.grantWaits n) ∧
    s.grantMark = (match s.journal.mark with
      | none => s
      | some m =>
        let u := s.record .device (.clockState m.before s.clock.state m.count)
        if open_ then u.withJournal { u.journal with mark := none } else s) ∧
    s.grantWaits 0 = s ∧
    (∀ n, s.grantWaits (n + 1) = match s.journal.waits with
      | [] => s
      | r :: rest =>
        if open_ then ((s.withJournal { s.journal with waits := rest }).settle r).grantWaits n else s) ∧
    (s.grantPlaces.journal.waits = [] ∨
      (64 ≤ s.grantPlaces.journal.buffer.length ∧ s.grantPlaces.journal.counter < s.grantPlaces.journal.pages))) ∧
  ∀ (s : State) (e : BufEntry) (rest : List BufEntry), s.live = true → s.journal.buffer = e :: rest →
    exec .partialPageTime s = .next
      (if e.entered + s.settings.partialTime ≤ s.clock.tick then s.judgePage else s)

/-! ### Laws of the part -/

/-- No extent comes to be scrubbed unless it is expired and no hold covers it at the moment of the issue: whatever the
command, an extent at SCRUBBING after it was so before, or passes the issue-time check after it (R84, R116, R124, R143). -/
def Obligations.OnlyExpiredUnheldExtentsAreScrubbed : Prop :=
  ∀ (s t : State) (n : Nat), step s = .next t → t.scrubbing n → s.scrubbing n ∨ t.mayScrub n = true

/-- What never goes back over the life of an initialized part, through resets and power losses too: archive seconds, the
policy-fixed latch, extent numbers, sequences, pages used, frontiers, the marker (R11, R25, R32, R90, R109, R152, R158,
R184). While the latch is clear there is no extent (R109). Only a tick and ADOPT move archive seconds, and only the named
commands the holds and classes. -/
def Obligations.TablesOnlyAdvance : Prop :=
  (∀ s t : State, s.marker = true → s.clock.seconds ≤ 4294967295 → step s = .next t → Advances s t) ∧
  (∀ s t : State, (s.classes.fixed = false → s.et.records = []) → step s = .next t → t.classes.fixed = false →
    t.et.records = []) ∧
  ∀ (i : Instr) (s t : State), s.marker = true → exec i s = .next t →
    (i ≠ .tick → (∀ h, i ≠ .adopt h) → t.clock.seconds = s.clock.seconds) ∧
    ((∀ h, i ≠ .holdPlace h ∧ i ≠ .holdLift h) → t.holds = s.holds) ∧
    ((∀ h, i ≠ .classSet h ∧ i ≠ .policyFix h) → t.classes = s.classes)

/-- The effective expiry day of a retained extent never decreases under a fixed policy (R115, R112, R118). -/
def Obligations.ExpiryNeverDecreases : Prop :=
  ∀ (s t : State) (n : Nat) (r r' : Extent), s.marker = true → s.classes.fixed = true → step s = .next t →
    s.extent n = some r → r.retained = true → t.extent n = some r' → r'.retained = true →
    (s.classEntry r.cls).defined = true → s.expiry r ≤ t.expiry r'

/-- Every step keeps the layout of the state, the settings and the clock in their ranges, the CMODE count below N, and the hold
list bounded, without a matter twice, and in the order of placement (R90, R92, R121, R165, R168, R177, R178, R183). -/
def Obligations.LayoutClockAndHoldsAreKept : Prop :=
  ∀ s t : State, step s = .next t →
    (s.Whole → t.Whole) ∧ (s.settings.Sound → t.settings.Sound) ∧
    (s.settings.Sound → s.clock.Sound → t.clock.Sound) ∧
    (s.settings.Sound → s.cport.count < s.settings.cmodeN → t.cport.count < t.settings.cmodeN) ∧
    (s.clock.Sound → s.holds.Sound s.clock.seconds → t.holds.Sound t.clock.seconds)

/-- Every step keeps the journal's buffer chained, and the extent table ordered by number below the next number, at most
32,768 records (R11, R15, R152, R153, R154); the Key Index, with one pair for each record that is not VOIDED and each key
once (R12); the disposal queue, with one entry for each extent in DISPOSING (R141); the stores, tiling the data region,
each frontier within its store (R23 to R25); and at most one extent being written in each store, its open extent (R9, R26). -/
def Obligations.JournalAndExtentTableAreKept : Prop :=
  ∀ s t : State, step s = .next t →
    (s.clock.Sound → s.JournalSound → t.JournalSound) ∧ (s.et.Sound → t.et.Sound) ∧
    (s.et.Sound → s.et.KeysSound → t.et.KeysSound) ∧ (s.et.Sound → s.QueueSound → t.QueueSound) ∧
    (s.storeMap.Sound → t.storeMap.Sound) ∧ (s.et.Sound → s.OpenSound → t.OpenSound)
end

