-- ==== Sys2Proof/Laws/State.lean ====
section
/-! SUPPORT. What each named update of the state leaves and what it sets: one lemma per field per update, so that
no later proof unfolds a record update. -/

namespace Sys2Proof.Machine

@[simp] theorem State.withPhase_phase (s : State) (v : Phase) : (s.withPhase v).phase = v := rfl
@[simp] theorem State.withPhase_startup (s : State) (v : Phase) : (s.withPhase v).startup = s.startup := rfl
@[simp] theorem State.withPhase_marker (s : State) (v : Phase) : (s.withPhase v).marker = s.marker := rfl
@[simp] theorem State.withPhase_settings (s : State) (v : Phase) : (s.withPhase v).settings = s.settings := rfl
@[simp] theorem State.withPhase_linkA (s : State) (v : Phase) : (s.withPhase v).linkA = s.linkA := rfl
@[simp] theorem State.withPhase_linkB (s : State) (v : Phase) : (s.withPhase v).linkB = s.linkB := rfl
@[simp] theorem State.withPhase_cport (s : State) (v : Phase) : (s.withPhase v).cport = s.cport := rfl
@[simp] theorem State.withPhase_et (s : State) (v : Phase) : (s.withPhase v).et = s.et := rfl
@[simp] theorem State.withPhase_readers (s : State) (v : Phase) : (s.withPhase v).readers = s.readers := rfl
@[simp] theorem State.withPhase_storeMap (s : State) (v : Phase) : (s.withPhase v).storeMap = s.storeMap := rfl
@[simp] theorem State.withPhase_write (s : State) (v : Phase) : (s.withPhase v).write = s.write := rfl
@[simp] theorem State.withPhase_media (s : State) (v : Phase) : (s.withPhase v).media = s.media := rfl
@[simp] theorem State.withPhase_clock (s : State) (v : Phase) : (s.withPhase v).clock = s.clock := rfl
@[simp] theorem State.withPhase_classes (s : State) (v : Phase) : (s.withPhase v).classes = s.classes := rfl
@[simp] theorem State.withPhase_holds (s : State) (v : Phase) : (s.withPhase v).holds = s.holds := rfl
@[simp] theorem State.withPhase_engine (s : State) (v : Phase) : (s.withPhase v).engine = s.engine := rfl
@[simp] theorem State.withPhase_journal (s : State) (v : Phase) : (s.withPhase v).journal = s.journal := rfl
@[simp] theorem State.withPhase_router (s : State) (v : Phase) : (s.withPhase v).router = s.router := rfl
@[simp] theorem State.withPhase_freeCount (s : State) (v : Phase) : (s.withPhase v).freeCount = s.freeCount := rfl
@[simp] theorem State.withPhase_pending (s : State) (v : Phase) : (s.withPhase v).pending = s.pending := rfl

@[simp] theorem State.withStartup_phase (s : State) (v : Startup) : (s.withStartup v).phase = s.phase := rfl
@[simp] theorem State.withStartup_startup (s : State) (v : Startup) : (s.withStartup v).startup = v := rfl
@[simp] theorem State.withStartup_marker (s : State) (v : Startup) : (s.withStartup v).marker = s.marker := rfl
@[simp] theorem State.withStartup_settings (s : State) (v : Startup) : (s.withStartup v).settings = s.settings := rfl
@[simp] theorem State.withStartup_linkA (s : State) (v : Startup) : (s.withStartup v).linkA = s.linkA := rfl
@[simp] theorem State.withStartup_linkB (s : State) (v : Startup) : (s.withStartup v).linkB = s.linkB := rfl
@[simp] theorem State.withStartup_cport (s : State) (v : Startup) : (s.withStartup v).cport = s.cport := rfl
@[simp] theorem State.withStartup_et (s : State) (v : Startup) : (s.withStartup v).et = s.et := rfl
@[simp] theorem State.withStartup_readers (s : State) (v : Startup) : (s.withStartup v).readers = s.readers := rfl
@[simp] theorem State.withStartup_storeMap (s : State) (v : Startup) : (s.withStartup v).storeMap = s.storeMap := rfl
@[simp] theorem State.withStartup_write (s : State) (v : Startup) : (s.withStartup v).write = s.write := rfl
@[simp] theorem State.withStartup_media (s : State) (v : Startup) : (s.withStartup v).media = s.media := rfl
@[simp] theorem State.withStartup_clock (s : State) (v : Startup) : (s.withStartup v).clock = s.clock := rfl
@[simp] theorem State.withStartup_classes (s : State) (v : Startup) : (s.withStartup v).classes = s.classes := rfl
@[simp] theorem State.withStartup_holds (s : State) (v : Startup) : (s.withStartup v).holds = s.holds := rfl
@[simp] theorem State.withStartup_engine (s : State) (v : Startup) : (s.withStartup v).engine = s.engine := rfl
@[simp] theorem State.withStartup_journal (s : State) (v : Startup) : (s.withStartup v).journal = s.journal := rfl
@[simp] theorem State.withStartup_router (s : State) (v : Startup) : (s.withStartup v).router = s.router := rfl
@[simp] theorem State.withStartup_freeCount (s : State) (v : Startup) : (s.withStartup v).freeCount = s.freeCount := rfl
@[simp] theorem State.withStartup_pending (s : State) (v : Startup) : (s.withStartup v).pending = s.pending := rfl

@[simp] theorem State.withMarker_phase (s : State) (v : Bool) : (s.withMarker v).phase = s.phase := rfl
@[simp] theorem State.withMarker_startup (s : State) (v : Bool) : (s.withMarker v).startup = s.startup := rfl
@[simp] theorem State.withMarker_marker (s : State) (v : Bool) : (s.withMarker v).marker = v := rfl
@[simp] theorem State.withMarker_settings (s : State) (v : Bool) : (s.withMarker v).settings = s.settings := rfl
@[simp] theorem State.withMarker_linkA (s : State) (v : Bool) : (s.withMarker v).linkA = s.linkA := rfl
@[simp] theorem State.withMarker_linkB (s : State) (v : Bool) : (s.withMarker v).linkB = s.linkB := rfl
@[simp] theorem State.withMarker_cport (s : State) (v : Bool) : (s.withMarker v).cport = s.cport := rfl
@[simp] theorem State.withMarker_et (s : State) (v : Bool) : (s.withMarker v).et = s.et := rfl
@[simp] theorem State.withMarker_readers (s : State) (v : Bool) : (s.withMarker v).readers = s.readers := rfl
@[simp] theorem State.withMarker_storeMap (s : State) (v : Bool) : (s.withMarker v).storeMap = s.storeMap := rfl
@[simp] theorem State.withMarker_write (s : State) (v : Bool) : (s.withMarker v).write = s.write := rfl
@[simp] theorem State.withMarker_media (s : State) (v : Bool) : (s.withMarker v).media = s.media := rfl
@[simp] theorem State.withMarker_clock (s : State) (v : Bool) : (s.withMarker v).clock = s.clock := rfl
@[simp] theorem State.withMarker_classes (s : State) (v : Bool) : (s.withMarker v).classes = s.classes := rfl
@[simp] theorem State.withMarker_holds (s : State) (v : Bool) : (s.withMarker v).holds = s.holds := rfl
@[simp] theorem State.withMarker_engine (s : State) (v : Bool) : (s.withMarker v).engine = s.engine := rfl
@[simp] theorem State.withMarker_journal (s : State) (v : Bool) : (s.withMarker v).journal = s.journal := rfl
@[simp] theorem State.withMarker_router (s : State) (v : Bool) : (s.withMarker v).router = s.router := rfl
@[simp] theorem State.withMarker_freeCount (s : State) (v : Bool) : (s.withMarker v).freeCount = s.freeCount := rfl
@[simp] theorem State.withMarker_pending (s : State) (v : Bool) : (s.withMarker v).pending = s.pending := rfl

@[simp] theorem State.withSettings_phase (s : State) (v : Settings) : (s.withSettings v).phase = s.phase := rfl
@[simp] theorem State.withSettings_startup (s : State) (v : Settings) : (s.withSettings v).startup = s.startup := rfl
@[simp] theorem State.withSettings_marker (s : State) (v : Settings) : (s.withSettings v).marker = s.marker := rfl
@[simp] theorem State.withSettings_settings (s : State) (v : Settings) : (s.withSettings v).settings = v := rfl
@[simp] theorem State.withSettings_linkA (s : State) (v : Settings) : (s.withSettings v).linkA = s.linkA := rfl
@[simp] theorem State.withSettings_linkB (s : State) (v : Settings) : (s.withSettings v).linkB = s.linkB := rfl
@[simp] theorem State.withSettings_cport (s : State) (v : Settings) : (s.withSettings v).cport = s.cport := rfl
@[simp] theorem State.withSettings_et (s : State) (v : Settings) : (s.withSettings v).et = s.et := rfl
@[simp] theorem State.withSettings_readers (s : State) (v : Settings) : (s.withSettings v).readers = s.readers := rfl
@[simp] theorem State.withSettings_storeMap (s : State) (v : Settings) : (s.withSettings v).storeMap = s.storeMap := rfl
@[simp] theorem State.withSettings_write (s : State) (v : Settings) : (s.withSettings v).write = s.write := rfl
@[simp] theorem State.withSettings_media (s : State) (v : Settings) : (s.withSettings v).media = s.media := rfl
@[simp] theorem State.withSettings_clock (s : State) (v : Settings) : (s.withSettings v).clock = s.clock := rfl
@[simp] theorem State.withSettings_classes (s : State) (v : Settings) : (s.withSettings v).classes = s.classes := rfl
@[simp] theorem State.withSettings_holds (s : State) (v : Settings) : (s.withSettings v).holds = s.holds := rfl
@[simp] theorem State.withSettings_engine (s : State) (v : Settings) : (s.withSettings v).engine = s.engine := rfl
@[simp] theorem State.withSettings_journal (s : State) (v : Settings) : (s.withSettings v).journal = s.journal := rfl
@[simp] theorem State.withSettings_router (s : State) (v : Settings) : (s.withSettings v).router = s.router := rfl
@[simp] theorem State.withSettings_freeCount (s : State) (v : Settings) : (s.withSettings v).freeCount = s.freeCount := rfl
@[simp] theorem State.withSettings_pending (s : State) (v : Settings) : (s.withSettings v).pending = s.pending := rfl

@[simp] theorem State.withLinkA_phase (s : State) (v : LinkState) : (s.withLinkA v).phase = s.phase := rfl
@[simp] theorem State.withLinkA_startup (s : State) (v : LinkState) : (s.withLinkA v).startup = s.startup := rfl
@[simp] theorem State.withLinkA_marker (s : State) (v : LinkState) : (s.withLinkA v).marker = s.marker := rfl
@[simp] theorem State.withLinkA_settings (s : State) (v : LinkState) : (s.withLinkA v).settings = s.settings := rfl
@[simp] theorem State.withLinkA_linkA (s : State) (v : LinkState) : (s.withLinkA v).linkA = v := rfl
@[simp] theorem State.withLinkA_linkB (s : State) (v : LinkState) : (s.withLinkA v).linkB = s.linkB := rfl
@[simp] theorem State.withLinkA_cport (s : State) (v : LinkState) : (s.withLinkA v).cport = s.cport := rfl
@[simp] theorem State.withLinkA_et (s : State) (v : LinkState) : (s.withLinkA v).et = s.et := rfl
@[simp] theorem State.withLinkA_readers (s : State) (v : LinkState) : (s.withLinkA v).readers = s.readers := rfl
@[simp] theorem State.withLinkA_storeMap (s : State) (v : LinkState) : (s.withLinkA v).storeMap = s.storeMap := rfl
@[simp] theorem State.withLinkA_write (s : State) (v : LinkState) : (s.withLinkA v).write = s.write := rfl
@[simp] theorem State.withLinkA_media (s : State) (v : LinkState) : (s.withLinkA v).media = s.media := rfl
@[simp] theorem State.withLinkA_clock (s : State) (v : LinkState) : (s.withLinkA v).clock = s.clock := rfl
@[simp] theorem State.withLinkA_classes (s : State) (v : LinkState) : (s.withLinkA v).classes = s.classes := rfl
@[simp] theorem State.withLinkA_holds (s : State) (v : LinkState) : (s.withLinkA v).holds = s.holds := rfl
@[simp] theorem State.withLinkA_engine (s : State) (v : LinkState) : (s.withLinkA v).engine = s.engine := rfl
@[simp] theorem State.withLinkA_journal (s : State) (v : LinkState) : (s.withLinkA v).journal = s.journal := rfl
@[simp] theorem State.withLinkA_router (s : State) (v : LinkState) : (s.withLinkA v).router = s.router := rfl
@[simp] theorem State.withLinkA_freeCount (s : State) (v : LinkState) : (s.withLinkA v).freeCount = s.freeCount := rfl
@[simp] theorem State.withLinkA_pending (s : State) (v : LinkState) : (s.withLinkA v).pending = s.pending := rfl

@[simp] theorem State.withLinkB_phase (s : State) (v : LinkState) : (s.withLinkB v).phase = s.phase := rfl
@[simp] theorem State.withLinkB_startup (s : State) (v : LinkState) : (s.withLinkB v).startup = s.startup := rfl
@[simp] theorem State.withLinkB_marker (s : State) (v : LinkState) : (s.withLinkB v).marker = s.marker := rfl
@[simp] theorem State.withLinkB_settings (s : State) (v : LinkState) : (s.withLinkB v).settings = s.settings := rfl
@[simp] theorem State.withLinkB_linkA (s : State) (v : LinkState) : (s.withLinkB v).linkA = s.linkA := rfl
@[simp] theorem State.withLinkB_linkB (s : State) (v : LinkState) : (s.withLinkB v).linkB = v := rfl
@[simp] theorem State.withLinkB_cport (s : State) (v : LinkState) : (s.withLinkB v).cport = s.cport := rfl
@[simp] theorem State.withLinkB_et (s : State) (v : LinkState) : (s.withLinkB v).et = s.et := rfl
@[simp] theorem State.withLinkB_readers (s : State) (v : LinkState) : (s.withLinkB v).readers = s.readers := rfl
@[simp] theorem State.withLinkB_storeMap (s : State) (v : LinkState) : (s.withLinkB v).storeMap = s.storeMap := rfl
@[simp] theorem State.withLinkB_write (s : State) (v : LinkState) : (s.withLinkB v).write = s.write := rfl
@[simp] theorem State.withLinkB_media (s : State) (v : LinkState) : (s.withLinkB v).media = s.media := rfl
@[simp] theorem State.withLinkB_clock (s : State) (v : LinkState) : (s.withLinkB v).clock = s.clock := rfl
@[simp] theorem State.withLinkB_classes (s : State) (v : LinkState) : (s.withLinkB v).classes = s.classes := rfl
@[simp] theorem State.withLinkB_holds (s : State) (v : LinkState) : (s.withLinkB v).holds = s.holds := rfl
@[simp] theorem State.withLinkB_engine (s : State) (v : LinkState) : (s.withLinkB v).engine = s.engine := rfl
@[simp] theorem State.withLinkB_journal (s : State) (v : LinkState) : (s.withLinkB v).journal = s.journal := rfl
@[simp] theorem State.withLinkB_router (s : State) (v : LinkState) : (s.withLinkB v).router = s.router := rfl
@[simp] theorem State.withLinkB_freeCount (s : State) (v : LinkState) : (s.withLinkB v).freeCount = s.freeCount := rfl
@[simp] theorem State.withLinkB_pending (s : State) (v : LinkState) : (s.withLinkB v).pending = s.pending := rfl

@[simp] theorem State.withCport_phase (s : State) (v : CPort) : (s.withCport v).phase = s.phase := rfl
@[simp] theorem State.withCport_startup (s : State) (v : CPort) : (s.withCport v).startup = s.startup := rfl
@[simp] theorem State.withCport_marker (s : State) (v : CPort) : (s.withCport v).marker = s.marker := rfl
@[simp] theorem State.withCport_settings (s : State) (v : CPort) : (s.withCport v).settings = s.settings := rfl
@[simp] theorem State.withCport_linkA (s : State) (v : CPort) : (s.withCport v).linkA = s.linkA := rfl
@[simp] theorem State.withCport_linkB (s : State) (v : CPort) : (s.withCport v).linkB = s.linkB := rfl
@[simp] theorem State.withCport_cport (s : State) (v : CPort) : (s.withCport v).cport = v := rfl
@[simp] theorem State.withCport_et (s : State) (v : CPort) : (s.withCport v).et = s.et := rfl
@[simp] theorem State.withCport_readers (s : State) (v : CPort) : (s.withCport v).readers = s.readers := rfl
@[simp] theorem State.withCport_storeMap (s : State) (v : CPort) : (s.withCport v).storeMap = s.storeMap := rfl
@[simp] theorem State.withCport_write (s : State) (v : CPort) : (s.withCport v).write = s.write := rfl
@[simp] theorem State.withCport_media (s : State) (v : CPort) : (s.withCport v).media = s.media := rfl
@[simp] theorem State.withCport_clock (s : State) (v : CPort) : (s.withCport v).clock = s.clock := rfl
@[simp] theorem State.withCport_classes (s : State) (v : CPort) : (s.withCport v).classes = s.classes := rfl
@[simp] theorem State.withCport_holds (s : State) (v : CPort) : (s.withCport v).holds = s.holds := rfl
@[simp] theorem State.withCport_engine (s : State) (v : CPort) : (s.withCport v).engine = s.engine := rfl
@[simp] theorem State.withCport_journal (s : State) (v : CPort) : (s.withCport v).journal = s.journal := rfl
@[simp] theorem State.withCport_router (s : State) (v : CPort) : (s.withCport v).router = s.router := rfl
@[simp] theorem State.withCport_freeCount (s : State) (v : CPort) : (s.withCport v).freeCount = s.freeCount := rfl
@[simp] theorem State.withCport_pending (s : State) (v : CPort) : (s.withCport v).pending = s.pending := rfl

@[simp] theorem State.withEt_phase (s : State) (v : ExtentTable) : (s.withEt v).phase = s.phase := rfl
@[simp] theorem State.withEt_startup (s : State) (v : ExtentTable) : (s.withEt v).startup = s.startup := rfl
@[simp] theorem State.withEt_marker (s : State) (v : ExtentTable) : (s.withEt v).marker = s.marker := rfl
@[simp] theorem State.withEt_settings (s : State) (v : ExtentTable) : (s.withEt v).settings = s.settings := rfl
@[simp] theorem State.withEt_linkA (s : State) (v : ExtentTable) : (s.withEt v).linkA = s.linkA := rfl
@[simp] theorem State.withEt_linkB (s : State) (v : ExtentTable) : (s.withEt v).linkB = s.linkB := rfl
@[simp] theorem State.withEt_cport (s : State) (v : ExtentTable) : (s.withEt v).cport = s.cport := rfl
@[simp] theorem State.withEt_et (s : State) (v : ExtentTable) : (s.withEt v).et = v := rfl
@[simp] theorem State.withEt_readers (s : State) (v : ExtentTable) : (s.withEt v).readers = s.readers := rfl
@[simp] theorem State.withEt_storeMap (s : State) (v : ExtentTable) : (s.withEt v).storeMap = s.storeMap := rfl
@[simp] theorem State.withEt_write (s : State) (v : ExtentTable) : (s.withEt v).write = s.write := rfl
@[simp] theorem State.withEt_media (s : State) (v : ExtentTable) : (s.withEt v).media = s.media := rfl
@[simp] theorem State.withEt_clock (s : State) (v : ExtentTable) : (s.withEt v).clock = s.clock := rfl
@[simp] theorem State.withEt_classes (s : State) (v : ExtentTable) : (s.withEt v).classes = s.classes := rfl
@[simp] theorem State.withEt_holds (s : State) (v : ExtentTable) : (s.withEt v).holds = s.holds := rfl
@[simp] theorem State.withEt_engine (s : State) (v : ExtentTable) : (s.withEt v).engine = s.engine := rfl
@[simp] theorem State.withEt_journal (s : State) (v : ExtentTable) : (s.withEt v).journal = s.journal := rfl
@[simp] theorem State.withEt_router (s : State) (v : ExtentTable) : (s.withEt v).router = s.router := rfl
@[simp] theorem State.withEt_freeCount (s : State) (v : ExtentTable) : (s.withEt v).freeCount = s.freeCount := rfl
@[simp] theorem State.withEt_pending (s : State) (v : ExtentTable) : (s.withEt v).pending = s.pending := rfl

@[simp] theorem State.withReaders_phase (s : State) (v : List (Nat × Nat)) : (s.withReaders v).phase = s.phase := rfl
@[simp] theorem State.withReaders_startup (s : State) (v : List (Nat × Nat)) : (s.withReaders v).startup = s.startup := rfl
@[simp] theorem State.withReaders_marker (s : State) (v : List (Nat × Nat)) : (s.withReaders v).marker = s.marker := rfl
@[simp] theorem State.withReaders_settings (s : State) (v : List (Nat × Nat)) : (s.withReaders v).settings = s.settings := rfl
@[simp] theorem State.withReaders_linkA (s : State) (v : List (Nat × Nat)) : (s.withReaders v).linkA = s.linkA := rfl
@[simp] theorem State.withReaders_linkB (s : State) (v : List (Nat × Nat)) : (s.withReaders v).linkB = s.linkB := rfl
@[simp] theorem State.withReaders_cport (s : State) (v : List (Nat × Nat)) : (s.withReaders v).cport = s.cport := rfl
@[simp] theorem State.withReaders_et (s : State) (v : List (Nat × Nat)) : (s.withReaders v).et = s.et := rfl
@[simp] theorem State.withReaders_readers (s : State) (v : List (Nat × Nat)) : (s.withReaders v).readers = v := rfl
@[simp] theorem State.withReaders_storeMap (s : State) (v : List (Nat × Nat)) : (s.withReaders v).storeMap = s.storeMap := rfl
@[simp] theorem State.withReaders_write (s : State) (v : List (Nat × Nat)) : (s.withReaders v).write = s.write := rfl
@[simp] theorem State.withReaders_media (s : State) (v : List (Nat × Nat)) : (s.withReaders v).media = s.media := rfl
@[simp] theorem State.withReaders_clock (s : State) (v : List (Nat × Nat)) : (s.withReaders v).clock = s.clock := rfl
@[simp] theorem State.withReaders_classes (s : State) (v : List (Nat × Nat)) : (s.withReaders v).classes = s.classes := rfl
@[simp] theorem State.withReaders_holds (s : State) (v : List (Nat × Nat)) : (s.withReaders v).holds = s.holds := rfl
@[simp] theorem State.withReaders_engine (s : State) (v : List (Nat × Nat)) : (s.withReaders v).engine = s.engine := rfl
@[simp] theorem State.withReaders_journal (s : State) (v : List (Nat × Nat)) : (s.withReaders v).journal = s.journal := rfl
@[simp] theorem State.withReaders_router (s : State) (v : List (Nat × Nat)) : (s.withReaders v).router = s.router := rfl
@[simp] theorem State.withReaders_freeCount (s : State) (v : List (Nat × Nat)) : (s.withReaders v).freeCount = s.freeCount := rfl
@[simp] theorem State.withReaders_pending (s : State) (v : List (Nat × Nat)) : (s.withReaders v).pending = s.pending := rfl

@[simp] theorem State.withStoreMap_phase (s : State) (v : StoreMap) : (s.withStoreMap v).phase = s.phase := rfl
@[simp] theorem State.withStoreMap_startup (s : State) (v : StoreMap) : (s.withStoreMap v).startup = s.startup := rfl
@[simp] theorem State.withStoreMap_marker (s : State) (v : StoreMap) : (s.withStoreMap v).marker = s.marker := rfl
@[simp] theorem State.withStoreMap_settings (s : State) (v : StoreMap) : (s.withStoreMap v).settings = s.settings := rfl
@[simp] theorem State.withStoreMap_linkA (s : State) (v : StoreMap) : (s.withStoreMap v).linkA = s.linkA := rfl
@[simp] theorem State.withStoreMap_linkB (s : State) (v : StoreMap) : (s.withStoreMap v).linkB = s.linkB := rfl
@[simp] theorem State.withStoreMap_cport (s : State) (v : StoreMap) : (s.withStoreMap v).cport = s.cport := rfl
@[simp] theorem State.withStoreMap_et (s : State) (v : StoreMap) : (s.withStoreMap v).et = s.et := rfl
@[simp] theorem State.withStoreMap_readers (s : State) (v : StoreMap) : (s.withStoreMap v).readers = s.readers := rfl
@[simp] theorem State.withStoreMap_storeMap (s : State) (v : StoreMap) : (s.withStoreMap v).storeMap = v := rfl
@[simp] theorem State.withStoreMap_write (s : State) (v : StoreMap) : (s.withStoreMap v).write = s.write := rfl
@[simp] theorem State.withStoreMap_media (s : State) (v : StoreMap) : (s.withStoreMap v).media = s.media := rfl
@[simp] theorem State.withStoreMap_clock (s : State) (v : StoreMap) : (s.withStoreMap v).clock = s.clock := rfl
@[simp] theorem State.withStoreMap_classes (s : State) (v : StoreMap) : (s.withStoreMap v).classes = s.classes := rfl
@[simp] theorem State.withStoreMap_holds (s : State) (v : StoreMap) : (s.withStoreMap v).holds = s.holds := rfl
@[simp] theorem State.withStoreMap_engine (s : State) (v : StoreMap) : (s.withStoreMap v).engine = s.engine := rfl
@[simp] theorem State.withStoreMap_journal (s : State) (v : StoreMap) : (s.withStoreMap v).journal = s.journal := rfl
@[simp] theorem State.withStoreMap_router (s : State) (v : StoreMap) : (s.withStoreMap v).router = s.router := rfl
@[simp] theorem State.withStoreMap_freeCount (s : State) (v : StoreMap) : (s.withStoreMap v).freeCount = s.freeCount := rfl
@[simp] theorem State.withStoreMap_pending (s : State) (v : StoreMap) : (s.withStoreMap v).pending = s.pending := rfl

@[simp] theorem State.withWrite_phase (s : State) (v : List WriteUnit) : (s.withWrite v).phase = s.phase := rfl
@[simp] theorem State.withWrite_startup (s : State) (v : List WriteUnit) : (s.withWrite v).startup = s.startup := rfl
@[simp] theorem State.withWrite_marker (s : State) (v : List WriteUnit) : (s.withWrite v).marker = s.marker := rfl
@[simp] theorem State.withWrite_settings (s : State) (v : List WriteUnit) : (s.withWrite v).settings = s.settings := rfl
@[simp] theorem State.withWrite_linkA (s : State) (v : List WriteUnit) : (s.withWrite v).linkA = s.linkA := rfl
@[simp] theorem State.withWrite_linkB (s : State) (v : List WriteUnit) : (s.withWrite v).linkB = s.linkB := rfl
@[simp] theorem State.withWrite_cport (s : State) (v : List WriteUnit) : (s.withWrite v).cport = s.cport := rfl
@[simp] theorem State.withWrite_et (s : State) (v : List WriteUnit) : (s.withWrite v).et = s.et := rfl
@[simp] theorem State.withWrite_readers (s : State) (v : List WriteUnit) : (s.withWrite v).readers = s.readers := rfl
@[simp] theorem State.withWrite_storeMap (s : State) (v : List WriteUnit) : (s.withWrite v).storeMap = s.storeMap := rfl
@[simp] theorem State.withWrite_write (s : State) (v : List WriteUnit) : (s.withWrite v).write = v := rfl
@[simp] theorem State.withWrite_media (s : State) (v : List WriteUnit) : (s.withWrite v).media = s.media := rfl
@[simp] theorem State.withWrite_clock (s : State) (v : List WriteUnit) : (s.withWrite v).clock = s.clock := rfl
@[simp] theorem State.withWrite_classes (s : State) (v : List WriteUnit) : (s.withWrite v).classes = s.classes := rfl
@[simp] theorem State.withWrite_holds (s : State) (v : List WriteUnit) : (s.withWrite v).holds = s.holds := rfl
@[simp] theorem State.withWrite_engine (s : State) (v : List WriteUnit) : (s.withWrite v).engine = s.engine := rfl
@[simp] theorem State.withWrite_journal (s : State) (v : List WriteUnit) : (s.withWrite v).journal = s.journal := rfl
@[simp] theorem State.withWrite_router (s : State) (v : List WriteUnit) : (s.withWrite v).router = s.router := rfl
@[simp] theorem State.withWrite_freeCount (s : State) (v : List WriteUnit) : (s.withWrite v).freeCount = s.freeCount := rfl
@[simp] theorem State.withWrite_pending (s : State) (v : List WriteUnit) : (s.withWrite v).pending = s.pending := rfl

@[simp] theorem State.withMedia_phase (s : State) (v : Media) : (s.withMedia v).phase = s.phase := rfl
@[simp] theorem State.withMedia_startup (s : State) (v : Media) : (s.withMedia v).startup = s.startup := rfl
@[simp] theorem State.withMedia_marker (s : State) (v : Media) : (s.withMedia v).marker = s.marker := rfl
@[simp] theorem State.withMedia_settings (s : State) (v : Media) : (s.withMedia v).settings = s.settings := rfl
@[simp] theorem State.withMedia_linkA (s : State) (v : Media) : (s.withMedia v).linkA = s.linkA := rfl
@[simp] theorem State.withMedia_linkB (s : State) (v : Media) : (s.withMedia v).linkB = s.linkB := rfl
@[simp] theorem State.withMedia_cport (s : State) (v : Media) : (s.withMedia v).cport = s.cport := rfl
@[simp] theorem State.withMedia_et (s : State) (v : Media) : (s.withMedia v).et = s.et := rfl
@[simp] theorem State.withMedia_readers (s : State) (v : Media) : (s.withMedia v).readers = s.readers := rfl
@[simp] theorem State.withMedia_storeMap (s : State) (v : Media) : (s.withMedia v).storeMap = s.storeMap := rfl
@[simp] theorem State.withMedia_write (s : State) (v : Media) : (s.withMedia v).write = s.write := rfl
@[simp] theorem State.withMedia_media (s : State) (v : Media) : (s.withMedia v).media = v := rfl
@[simp] theorem State.withMedia_clock (s : State) (v : Media) : (s.withMedia v).clock = s.clock := rfl
@[simp] theorem State.withMedia_classes (s : State) (v : Media) : (s.withMedia v).classes = s.classes := rfl
@[simp] theorem State.withMedia_holds (s : State) (v : Media) : (s.withMedia v).holds = s.holds := rfl
@[simp] theorem State.withMedia_engine (s : State) (v : Media) : (s.withMedia v).engine = s.engine := rfl
@[simp] theorem State.withMedia_journal (s : State) (v : Media) : (s.withMedia v).journal = s.journal := rfl
@[simp] theorem State.withMedia_router (s : State) (v : Media) : (s.withMedia v).router = s.router := rfl
@[simp] theorem State.withMedia_freeCount (s : State) (v : Media) : (s.withMedia v).freeCount = s.freeCount := rfl
@[simp] theorem State.withMedia_pending (s : State) (v : Media) : (s.withMedia v).pending = s.pending := rfl

@[simp] theorem State.withClock_phase (s : State) (v : Clock) : (s.withClock v).phase = s.phase := rfl
@[simp] theorem State.withClock_startup (s : State) (v : Clock) : (s.withClock v).startup = s.startup := rfl
@[simp] theorem State.withClock_marker (s : State) (v : Clock) : (s.withClock v).marker = s.marker := rfl
@[simp] theorem State.withClock_settings (s : State) (v : Clock) : (s.withClock v).settings = s.settings := rfl
@[simp] theorem State.withClock_linkA (s : State) (v : Clock) : (s.withClock v).linkA = s.linkA := rfl
@[simp] theorem State.withClock_linkB (s : State) (v : Clock) : (s.withClock v).linkB = s.linkB := rfl
@[simp] theorem State.withClock_cport (s : State) (v : Clock) : (s.withClock v).cport = s.cport := rfl
@[simp] theorem State.withClock_et (s : State) (v : Clock) : (s.withClock v).et = s.et := rfl
@[simp] theorem State.withClock_readers (s : State) (v : Clock) : (s.withClock v).readers = s.readers := rfl
@[simp] theorem State.withClock_storeMap (s : State) (v : Clock) : (s.withClock v).storeMap = s.storeMap := rfl
@[simp] theorem State.withClock_write (s : State) (v : Clock) : (s.withClock v).write = s.write := rfl
@[simp] theorem State.withClock_media (s : State) (v : Clock) : (s.withClock v).media = s.media := rfl
@[simp] theorem State.withClock_clock (s : State) (v : Clock) : (s.withClock v).clock = v := rfl
@[simp] theorem State.withClock_classes (s : State) (v : Clock) : (s.withClock v).classes = s.classes := rfl
@[simp] theorem State.withClock_holds (s : State) (v : Clock) : (s.withClock v).holds = s.holds := rfl
@[simp] theorem State.withClock_engine (s : State) (v : Clock) : (s.withClock v).engine = s.engine := rfl
@[simp] theorem State.withClock_journal (s : State) (v : Clock) : (s.withClock v).journal = s.journal := rfl
@[simp] theorem State.withClock_router (s : State) (v : Clock) : (s.withClock v).router = s.router := rfl
@[simp] theorem State.withClock_freeCount (s : State) (v : Clock) : (s.withClock v).freeCount = s.freeCount := rfl
@[simp] theorem State.withClock_pending (s : State) (v : Clock) : (s.withClock v).pending = s.pending := rfl

@[simp] theorem State.withClasses_phase (s : State) (v : ClassTable) : (s.withClasses v).phase = s.phase := rfl
@[simp] theorem State.withClasses_startup (s : State) (v : ClassTable) : (s.withClasses v).startup = s.startup := rfl
@[simp] theorem State.withClasses_marker (s : State) (v : ClassTable) : (s.withClasses v).marker = s.marker := rfl
@[simp] theorem State.withClasses_settings (s : State) (v : ClassTable) : (s.withClasses v).settings = s.settings := rfl
@[simp] theorem State.withClasses_linkA (s : State) (v : ClassTable) : (s.withClasses v).linkA = s.linkA := rfl
@[simp] theorem State.withClasses_linkB (s : State) (v : ClassTable) : (s.withClasses v).linkB = s.linkB := rfl
@[simp] theorem State.withClasses_cport (s : State) (v : ClassTable) : (s.withClasses v).cport = s.cport := rfl
@[simp] theorem State.withClasses_et (s : State) (v : ClassTable) : (s.withClasses v).et = s.et := rfl
@[simp] theorem State.withClasses_readers (s : State) (v : ClassTable) : (s.withClasses v).readers = s.readers := rfl
@[simp] theorem State.withClasses_storeMap (s : State) (v : ClassTable) : (s.withClasses v).storeMap = s.storeMap := rfl
@[simp] theorem State.withClasses_write (s : State) (v : ClassTable) : (s.withClasses v).write = s.write := rfl
@[simp] theorem State.withClasses_media (s : State) (v : ClassTable) : (s.withClasses v).media = s.media := rfl
@[simp] theorem State.withClasses_clock (s : State) (v : ClassTable) : (s.withClasses v).clock = s.clock := rfl
@[simp] theorem State.withClasses_classes (s : State) (v : ClassTable) : (s.withClasses v).classes = v := rfl
@[simp] theorem State.withClasses_holds (s : State) (v : ClassTable) : (s.withClasses v).holds = s.holds := rfl
@[simp] theorem State.withClasses_engine (s : State) (v : ClassTable) : (s.withClasses v).engine = s.engine := rfl
@[simp] theorem State.withClasses_journal (s : State) (v : ClassTable) : (s.withClasses v).journal = s.journal := rfl
@[simp] theorem State.withClasses_router (s : State) (v : ClassTable) : (s.withClasses v).router = s.router := rfl
@[simp] theorem State.withClasses_freeCount (s : State) (v : ClassTable) : (s.withClasses v).freeCount = s.freeCount := rfl
@[simp] theorem State.withClasses_pending (s : State) (v : ClassTable) : (s.withClasses v).pending = s.pending := rfl

@[simp] theorem State.withHolds_phase (s : State) (v : HoldList) : (s.withHolds v).phase = s.phase := rfl
@[simp] theorem State.withHolds_startup (s : State) (v : HoldList) : (s.withHolds v).startup = s.startup := rfl
@[simp] theorem State.withHolds_marker (s : State) (v : HoldList) : (s.withHolds v).marker = s.marker := rfl
@[simp] theorem State.withHolds_settings (s : State) (v : HoldList) : (s.withHolds v).settings = s.settings := rfl
@[simp] theorem State.withHolds_linkA (s : State) (v : HoldList) : (s.withHolds v).linkA = s.linkA := rfl
@[simp] theorem State.withHolds_linkB (s : State) (v : HoldList) : (s.withHolds v).linkB = s.linkB := rfl
@[simp] theorem State.withHolds_cport (s : State) (v : HoldList) : (s.withHolds v).cport = s.cport := rfl
@[simp] theorem State.withHolds_et (s : State) (v : HoldList) : (s.withHolds v).et = s.et := rfl
@[simp] theorem State.withHolds_readers (s : State) (v : HoldList) : (s.withHolds v).readers = s.readers := rfl
@[simp] theorem State.withHolds_storeMap (s : State) (v : HoldList) : (s.withHolds v).storeMap = s.storeMap := rfl
@[simp] theorem State.withHolds_write (s : State) (v : HoldList) : (s.withHolds v).write = s.write := rfl
@[simp] theorem State.withHolds_media (s : State) (v : HoldList) : (s.withHolds v).media = s.media := rfl
@[simp] theorem State.withHolds_clock (s : State) (v : HoldList) : (s.withHolds v).clock = s.clock := rfl
@[simp] theorem State.withHolds_classes (s : State) (v : HoldList) : (s.withHolds v).classes = s.classes := rfl
@[simp] theorem State.withHolds_holds (s : State) (v : HoldList) : (s.withHolds v).holds = v := rfl
@[simp] theorem State.withHolds_engine (s : State) (v : HoldList) : (s.withHolds v).engine = s.engine := rfl
@[simp] theorem State.withHolds_journal (s : State) (v : HoldList) : (s.withHolds v).journal = s.journal := rfl
@[simp] theorem State.withHolds_router (s : State) (v : HoldList) : (s.withHolds v).router = s.router := rfl
@[simp] theorem State.withHolds_freeCount (s : State) (v : HoldList) : (s.withHolds v).freeCount = s.freeCount := rfl
@[simp] theorem State.withHolds_pending (s : State) (v : HoldList) : (s.withHolds v).pending = s.pending := rfl

@[simp] theorem State.withEngine_phase (s : State) (v : Engine) : (s.withEngine v).phase = s.phase := rfl
@[simp] theorem State.withEngine_startup (s : State) (v : Engine) : (s.withEngine v).startup = s.startup := rfl
@[simp] theorem State.withEngine_marker (s : State) (v : Engine) : (s.withEngine v).marker = s.marker := rfl
@[simp] theorem State.withEngine_settings (s : State) (v : Engine) : (s.withEngine v).settings = s.settings := rfl
@[simp] theorem State.withEngine_linkA (s : State) (v : Engine) : (s.withEngine v).linkA = s.linkA := rfl
@[simp] theorem State.withEngine_linkB (s : State) (v : Engine) : (s.withEngine v).linkB = s.linkB := rfl
@[simp] theorem State.withEngine_cport (s : State) (v : Engine) : (s.withEngine v).cport = s.cport := rfl
@[simp] theorem State.withEngine_et (s : State) (v : Engine) : (s.withEngine v).et = s.et := rfl
@[simp] theorem State.withEngine_readers (s : State) (v : Engine) : (s.withEngine v).readers = s.readers := rfl
@[simp] theorem State.withEngine_storeMap (s : State) (v : Engine) : (s.withEngine v).storeMap = s.storeMap := rfl
@[simp] theorem State.withEngine_write (s : State) (v : Engine) : (s.withEngine v).write = s.write := rfl
@[simp] theorem State.withEngine_media (s : State) (v : Engine) : (s.withEngine v).media = s.media := rfl
@[simp] theorem State.withEngine_clock (s : State) (v : Engine) : (s.withEngine v).clock = s.clock := rfl
@[simp] theorem State.withEngine_classes (s : State) (v : Engine) : (s.withEngine v).classes = s.classes := rfl
@[simp] theorem State.withEngine_holds (s : State) (v : Engine) : (s.withEngine v).holds = s.holds := rfl
@[simp] theorem State.withEngine_engine (s : State) (v : Engine) : (s.withEngine v).engine = v := rfl
@[simp] theorem State.withEngine_journal (s : State) (v : Engine) : (s.withEngine v).journal = s.journal := rfl
@[simp] theorem State.withEngine_router (s : State) (v : Engine) : (s.withEngine v).router = s.router := rfl
@[simp] theorem State.withEngine_freeCount (s : State) (v : Engine) : (s.withEngine v).freeCount = s.freeCount := rfl
@[simp] theorem State.withEngine_pending (s : State) (v : Engine) : (s.withEngine v).pending = s.pending := rfl

@[simp] theorem State.withJournal_phase (s : State) (v : Journal) : (s.withJournal v).phase = s.phase := rfl
@[simp] theorem State.withJournal_startup (s : State) (v : Journal) : (s.withJournal v).startup = s.startup := rfl
@[simp] theorem State.withJournal_marker (s : State) (v : Journal) : (s.withJournal v).marker = s.marker := rfl
@[simp] theorem State.withJournal_settings (s : State) (v : Journal) : (s.withJournal v).settings = s.settings := rfl
@[simp] theorem State.withJournal_linkA (s : State) (v : Journal) : (s.withJournal v).linkA = s.linkA := rfl
@[simp] theorem State.withJournal_linkB (s : State) (v : Journal) : (s.withJournal v).linkB = s.linkB := rfl
@[simp] theorem State.withJournal_cport (s : State) (v : Journal) : (s.withJournal v).cport = s.cport := rfl
@[simp] theorem State.withJournal_et (s : State) (v : Journal) : (s.withJournal v).et = s.et := rfl
@[simp] theorem State.withJournal_readers (s : State) (v : Journal) : (s.withJournal v).readers = s.readers := rfl
@[simp] theorem State.withJournal_storeMap (s : State) (v : Journal) : (s.withJournal v).storeMap = s.storeMap := rfl
@[simp] theorem State.withJournal_write (s : State) (v : Journal) : (s.withJournal v).write = s.write := rfl
@[simp] theorem State.withJournal_media (s : State) (v : Journal) : (s.withJournal v).media = s.media := rfl
@[simp] theorem State.withJournal_clock (s : State) (v : Journal) : (s.withJournal v).clock = s.clock := rfl
@[simp] theorem State.withJournal_classes (s : State) (v : Journal) : (s.withJournal v).classes = s.classes := rfl
@[simp] theorem State.withJournal_holds (s : State) (v : Journal) : (s.withJournal v).holds = s.holds := rfl
@[simp] theorem State.withJournal_engine (s : State) (v : Journal) : (s.withJournal v).engine = s.engine := rfl
@[simp] theorem State.withJournal_journal (s : State) (v : Journal) : (s.withJournal v).journal = v := rfl
@[simp] theorem State.withJournal_router (s : State) (v : Journal) : (s.withJournal v).router = s.router := rfl
@[simp] theorem State.withJournal_freeCount (s : State) (v : Journal) : (s.withJournal v).freeCount = s.freeCount := rfl
@[simp] theorem State.withJournal_pending (s : State) (v : Journal) : (s.withJournal v).pending = s.pending := rfl

@[simp] theorem State.withRouter_phase (s : State) (v : EventRouter) : (s.withRouter v).phase = s.phase := rfl
@[simp] theorem State.withRouter_startup (s : State) (v : EventRouter) : (s.withRouter v).startup = s.startup := rfl
@[simp] theorem State.withRouter_marker (s : State) (v : EventRouter) : (s.withRouter v).marker = s.marker := rfl
@[simp] theorem State.withRouter_settings (s : State) (v : EventRouter) : (s.withRouter v).settings = s.settings := rfl
@[simp] theorem State.withRouter_linkA (s : State) (v : EventRouter) : (s.withRouter v).linkA = s.linkA := rfl
@[simp] theorem State.withRouter_linkB (s : State) (v : EventRouter) : (s.withRouter v).linkB = s.linkB := rfl
@[simp] theorem State.withRouter_cport (s : State) (v : EventRouter) : (s.withRouter v).cport = s.cport := rfl
@[simp] theorem State.withRouter_et (s : State) (v : EventRouter) : (s.withRouter v).et = s.et := rfl
@[simp] theorem State.withRouter_readers (s : State) (v : EventRouter) : (s.withRouter v).readers = s.readers := rfl
@[simp] theorem State.withRouter_storeMap (s : State) (v : EventRouter) : (s.withRouter v).storeMap = s.storeMap := rfl
@[simp] theorem State.withRouter_write (s : State) (v : EventRouter) : (s.withRouter v).write = s.write := rfl
@[simp] theorem State.withRouter_media (s : State) (v : EventRouter) : (s.withRouter v).media = s.media := rfl
@[simp] theorem State.withRouter_clock (s : State) (v : EventRouter) : (s.withRouter v).clock = s.clock := rfl
@[simp] theorem State.withRouter_classes (s : State) (v : EventRouter) : (s.withRouter v).classes = s.classes := rfl
@[simp] theorem State.withRouter_holds (s : State) (v : EventRouter) : (s.withRouter v).holds = s.holds := rfl
@[simp] theorem State.withRouter_engine (s : State) (v : EventRouter) : (s.withRouter v).engine = s.engine := rfl
@[simp] theorem State.withRouter_journal (s : State) (v : EventRouter) : (s.withRouter v).journal = s.journal := rfl
@[simp] theorem State.withRouter_router (s : State) (v : EventRouter) : (s.withRouter v).router = v := rfl
@[simp] theorem State.withRouter_freeCount (s : State) (v : EventRouter) : (s.withRouter v).freeCount = s.freeCount := rfl
@[simp] theorem State.withRouter_pending (s : State) (v : EventRouter) : (s.withRouter v).pending = s.pending := rfl

@[simp] theorem State.withFreeCount_phase (s : State) (v : Nat) : (s.withFreeCount v).phase = s.phase := rfl
@[simp] theorem State.withFreeCount_startup (s : State) (v : Nat) : (s.withFreeCount v).startup = s.startup := rfl
@[simp] theorem State.withFreeCount_marker (s : State) (v : Nat) : (s.withFreeCount v).marker = s.marker := rfl
@[simp] theorem State.withFreeCount_settings (s : State) (v : Nat) : (s.withFreeCount v).settings = s.settings := rfl
@[simp] theorem State.withFreeCount_linkA (s : State) (v : Nat) : (s.withFreeCount v).linkA = s.linkA := rfl
@[simp] theorem State.withFreeCount_linkB (s : State) (v : Nat) : (s.withFreeCount v).linkB = s.linkB := rfl
@[simp] theorem State.withFreeCount_cport (s : State) (v : Nat) : (s.withFreeCount v).cport = s.cport := rfl
@[simp] theorem State.withFreeCount_et (s : State) (v : Nat) : (s.withFreeCount v).et = s.et := rfl
@[simp] theorem State.withFreeCount_readers (s : State) (v : Nat) : (s.withFreeCount v).readers = s.readers := rfl
@[simp] theorem State.withFreeCount_storeMap (s : State) (v : Nat) : (s.withFreeCount v).storeMap = s.storeMap := rfl
@[simp] theorem State.withFreeCount_write (s : State) (v : Nat) : (s.withFreeCount v).write = s.write := rfl
@[simp] theorem State.withFreeCount_media (s : State) (v : Nat) : (s.withFreeCount v).media = s.media := rfl
@[simp] theorem State.withFreeCount_clock (s : State) (v : Nat) : (s.withFreeCount v).clock = s.clock := rfl
@[simp] theorem State.withFreeCount_classes (s : State) (v : Nat) : (s.withFreeCount v).classes = s.classes := rfl
@[simp] theorem State.withFreeCount_holds (s : State) (v : Nat) : (s.withFreeCount v).holds = s.holds := rfl
@[simp] theorem State.withFreeCount_engine (s : State) (v : Nat) : (s.withFreeCount v).engine = s.engine := rfl
@[simp] theorem State.withFreeCount_journal (s : State) (v : Nat) : (s.withFreeCount v).journal = s.journal := rfl
@[simp] theorem State.withFreeCount_router (s : State) (v : Nat) : (s.withFreeCount v).router = s.router := rfl
@[simp] theorem State.withFreeCount_freeCount (s : State) (v : Nat) : (s.withFreeCount v).freeCount = v := rfl
@[simp] theorem State.withFreeCount_pending (s : State) (v : Nat) : (s.withFreeCount v).pending = s.pending := rfl

@[simp] theorem State.withPending_phase (s : State) (v : List Instr) : (s.withPending v).phase = s.phase := rfl
@[simp] theorem State.withPending_startup (s : State) (v : List Instr) : (s.withPending v).startup = s.startup := rfl
@[simp] theorem State.withPending_marker (s : State) (v : List Instr) : (s.withPending v).marker = s.marker := rfl
@[simp] theorem State.withPending_settings (s : State) (v : List Instr) : (s.withPending v).settings = s.settings := rfl
@[simp] theorem State.withPending_linkA (s : State) (v : List Instr) : (s.withPending v).linkA = s.linkA := rfl
@[simp] theorem State.withPending_linkB (s : State) (v : List Instr) : (s.withPending v).linkB = s.linkB := rfl
@[simp] theorem State.withPending_cport (s : State) (v : List Instr) : (s.withPending v).cport = s.cport := rfl
@[simp] theorem State.withPending_et (s : State) (v : List Instr) : (s.withPending v).et = s.et := rfl
@[simp] theorem State.withPending_readers (s : State) (v : List Instr) : (s.withPending v).readers = s.readers := rfl
@[simp] theorem State.withPending_storeMap (s : State) (v : List Instr) : (s.withPending v).storeMap = s.storeMap := rfl
@[simp] theorem State.withPending_write (s : State) (v : List Instr) : (s.withPending v).write = s.write := rfl
@[simp] theorem State.withPending_media (s : State) (v : List Instr) : (s.withPending v).media = s.media := rfl
@[simp] theorem State.withPending_clock (s : State) (v : List Instr) : (s.withPending v).clock = s.clock := rfl
@[simp] theorem State.withPending_classes (s : State) (v : List Instr) : (s.withPending v).classes = s.classes := rfl
@[simp] theorem State.withPending_holds (s : State) (v : List Instr) : (s.withPending v).holds = s.holds := rfl
@[simp] theorem State.withPending_engine (s : State) (v : List Instr) : (s.withPending v).engine = s.engine := rfl
@[simp] theorem State.withPending_journal (s : State) (v : List Instr) : (s.withPending v).journal = s.journal := rfl
@[simp] theorem State.withPending_router (s : State) (v : List Instr) : (s.withPending v).router = s.router := rfl
@[simp] theorem State.withPending_freeCount (s : State) (v : List Instr) : (s.withPending v).freeCount = s.freeCount := rfl
@[simp] theorem State.withPending_pending (s : State) (v : List Instr) : (s.withPending v).pending = v := rfl

end Sys2Proof.Machine
end

