-- ==== Sys2Proof/Laws/Frames.lean ====
section
/-! SUPPORT. Frames: for each shared operation, the fields of State it never changes, as simp lemmas. The operations of Machine/Ops.lean and Machine/Places.lean. -/

namespace Sys2Proof.Machine

/-- What `State.withLink` never changes. -/
@[simp] theorem State.withLink_frame (s : State) (n : Node) (l : LinkState) :
    (s.withLink n l).phase = s.phase ∧
      (s.withLink n l).startup = s.startup ∧
      (s.withLink n l).marker = s.marker ∧
      (s.withLink n l).settings = s.settings ∧
      (s.withLink n l).cport = s.cport ∧
      (s.withLink n l).et = s.et ∧
      (s.withLink n l).readers = s.readers ∧
      (s.withLink n l).storeMap = s.storeMap ∧
      (s.withLink n l).write = s.write ∧
      (s.withLink n l).media = s.media ∧
      (s.withLink n l).clock = s.clock ∧
      (s.withLink n l).classes = s.classes ∧
      (s.withLink n l).holds = s.holds ∧
      (s.withLink n l).engine = s.engine ∧
      (s.withLink n l).journal = s.journal ∧
      (s.withLink n l).router = s.router ∧
      (s.withLink n l).freeCount = s.freeCount ∧
      (s.withLink n l).pending = s.pending := by
  cases n <;> simp [State.withLink]

/-- What `State.setSlot` never changes. -/
@[simp] theorem State.setSlot_frame (s : State) (ref : SlotRef) (v : Slot) :
    (s.setSlot ref v).phase = s.phase ∧
      (s.setSlot ref v).startup = s.startup ∧
      (s.setSlot ref v).marker = s.marker ∧
      (s.setSlot ref v).settings = s.settings ∧
      (s.setSlot ref v).et = s.et ∧
      (s.setSlot ref v).readers = s.readers ∧
      (s.setSlot ref v).storeMap = s.storeMap ∧
      (s.setSlot ref v).write = s.write ∧
      (s.setSlot ref v).media = s.media ∧
      (s.setSlot ref v).clock = s.clock ∧
      (s.setSlot ref v).classes = s.classes ∧
      (s.setSlot ref v).holds = s.holds ∧
      (s.setSlot ref v).engine = s.engine ∧
      (s.setSlot ref v).journal = s.journal ∧
      (s.setSlot ref v).router = s.router ∧
      (s.setSlot ref v).freeCount = s.freeCount ∧
      (s.setSlot ref v).pending = s.pending := by
  unfold State.setSlot
  repeat' split
  all_goals simp

/-- What `State.raiseAt` never changes. -/
@[simp] theorem State.raiseAt_frame (s : State) (m : Master) (c : EventClass) :
    (s.raiseAt m c).phase = s.phase ∧
      (s.raiseAt m c).startup = s.startup ∧
      (s.raiseAt m c).marker = s.marker ∧
      (s.raiseAt m c).settings = s.settings ∧
      (s.raiseAt m c).linkA = s.linkA ∧
      (s.raiseAt m c).linkB = s.linkB ∧
      (s.raiseAt m c).cport = s.cport ∧
      (s.raiseAt m c).et = s.et ∧
      (s.raiseAt m c).readers = s.readers ∧
      (s.raiseAt m c).storeMap = s.storeMap ∧
      (s.raiseAt m c).write = s.write ∧
      (s.raiseAt m c).media = s.media ∧
      (s.raiseAt m c).clock = s.clock ∧
      (s.raiseAt m c).classes = s.classes ∧
      (s.raiseAt m c).holds = s.holds ∧
      (s.raiseAt m c).engine = s.engine ∧
      (s.raiseAt m c).journal = s.journal ∧
      (s.raiseAt m c).freeCount = s.freeCount ∧
      (s.raiseAt m c).pending = s.pending := by
  unfold State.raiseAt
  try dsimp only
  repeat' split
  all_goals simp

/-- What `State.raise` never changes. -/
@[simp] theorem State.raise_frame (s : State) (c : EventClass) (f : Option Master) :
    (s.raise c f).phase = s.phase ∧
      (s.raise c f).startup = s.startup ∧
      (s.raise c f).marker = s.marker ∧
      (s.raise c f).settings = s.settings ∧
      (s.raise c f).linkA = s.linkA ∧
      (s.raise c f).linkB = s.linkB ∧
      (s.raise c f).cport = s.cport ∧
      (s.raise c f).et = s.et ∧
      (s.raise c f).readers = s.readers ∧
      (s.raise c f).storeMap = s.storeMap ∧
      (s.raise c f).write = s.write ∧
      (s.raise c f).media = s.media ∧
      (s.raise c f).clock = s.clock ∧
      (s.raise c f).classes = s.classes ∧
      (s.raise c f).holds = s.holds ∧
      (s.raise c f).engine = s.engine ∧
      (s.raise c f).journal = s.journal ∧
      (s.raise c f).freeCount = s.freeCount ∧
      (s.raise c f).pending = s.pending := by
  unfold State.raise
  try dsimp only
  repeat' split
  all_goals simp

/-- What `State.endSlot` never changes. -/
@[simp] theorem State.endSlot_frame (s : State) (ref : SlotRef) (r : Result) :
    (s.endSlot ref r).phase = s.phase ∧
      (s.endSlot ref r).startup = s.startup ∧
      (s.endSlot ref r).marker = s.marker ∧
      (s.endSlot ref r).settings = s.settings ∧
      (s.endSlot ref r).et = s.et ∧
      (s.endSlot ref r).readers = s.readers ∧
      (s.endSlot ref r).storeMap = s.storeMap ∧
      (s.endSlot ref r).write = s.write ∧
      (s.endSlot ref r).media = s.media ∧
      (s.endSlot ref r).clock = s.clock ∧
      (s.endSlot ref r).classes = s.classes ∧
      (s.endSlot ref r).holds = s.holds ∧
      (s.endSlot ref r).engine = s.engine ∧
      (s.endSlot ref r).journal = s.journal ∧
      (s.endSlot ref r).freeCount = s.freeCount ∧
      (s.endSlot ref r).pending = s.pending := by
  unfold State.endSlot
  repeat' split
  all_goals simp

/-- What `State.raiseFault` never changes. -/
@[simp] theorem State.raiseFault_frame (s : State) (ref : SlotRef) :
    (s.raiseFault ref).phase = s.phase ∧
      (s.raiseFault ref).startup = s.startup ∧
      (s.raiseFault ref).marker = s.marker ∧
      (s.raiseFault ref).settings = s.settings ∧
      (s.raiseFault ref).linkA = s.linkA ∧
      (s.raiseFault ref).linkB = s.linkB ∧
      (s.raiseFault ref).cport = s.cport ∧
      (s.raiseFault ref).et = s.et ∧
      (s.raiseFault ref).readers = s.readers ∧
      (s.raiseFault ref).storeMap = s.storeMap ∧
      (s.raiseFault ref).write = s.write ∧
      (s.raiseFault ref).media = s.media ∧
      (s.raiseFault ref).clock = s.clock ∧
      (s.raiseFault ref).classes = s.classes ∧
      (s.raiseFault ref).holds = s.holds ∧
      (s.raiseFault ref).engine = s.engine ∧
      (s.raiseFault ref).journal = s.journal ∧
      (s.raiseFault ref).freeCount = s.freeCount ∧
      (s.raiseFault ref).pending = s.pending := by
  unfold State.raiseFault
  repeat' split
  all_goals simp

/-- What `State.modExtent` never changes. -/
@[simp] theorem State.modExtent_frame (s : State) (n : Nat) (f : Extent → Extent) :
    (s.modExtent n f).phase = s.phase ∧
      (s.modExtent n f).startup = s.startup ∧
      (s.modExtent n f).marker = s.marker ∧
      (s.modExtent n f).settings = s.settings ∧
      (s.modExtent n f).linkA = s.linkA ∧
      (s.modExtent n f).linkB = s.linkB ∧
      (s.modExtent n f).cport = s.cport ∧
      (s.modExtent n f).readers = s.readers ∧
      (s.modExtent n f).storeMap = s.storeMap ∧
      (s.modExtent n f).write = s.write ∧
      (s.modExtent n f).media = s.media ∧
      (s.modExtent n f).clock = s.clock ∧
      (s.modExtent n f).classes = s.classes ∧
      (s.modExtent n f).holds = s.holds ∧
      (s.modExtent n f).engine = s.engine ∧
      (s.modExtent n f).journal = s.journal ∧
      (s.modExtent n f).router = s.router ∧
      (s.modExtent n f).freeCount = s.freeCount ∧
      (s.modExtent n f).pending = s.pending := by simp [State.modExtent]

/-- What `State.modStore` never changes. -/
@[simp] theorem State.modStore_frame (s : State) (i : Nat) (f : Store → Store) :
    (s.modStore i f).phase = s.phase ∧
      (s.modStore i f).startup = s.startup ∧
      (s.modStore i f).marker = s.marker ∧
      (s.modStore i f).settings = s.settings ∧
      (s.modStore i f).linkA = s.linkA ∧
      (s.modStore i f).linkB = s.linkB ∧
      (s.modStore i f).cport = s.cport ∧
      (s.modStore i f).et = s.et ∧
      (s.modStore i f).readers = s.readers ∧
      (s.modStore i f).write = s.write ∧
      (s.modStore i f).media = s.media ∧
      (s.modStore i f).clock = s.clock ∧
      (s.modStore i f).classes = s.classes ∧
      (s.modStore i f).holds = s.holds ∧
      (s.modStore i f).engine = s.engine ∧
      (s.modStore i f).journal = s.journal ∧
      (s.modStore i f).router = s.router ∧
      (s.modStore i f).freeCount = s.freeCount ∧
      (s.modStore i f).pending = s.pending := by simp [State.modStore]

/-- What `State.setUnit` never changes. -/
@[simp] theorem State.setUnit_frame (s : State) (i : Nat) (g : Staging) (t : Timer) :
    (s.setUnit i g t).phase = s.phase ∧
      (s.setUnit i g t).startup = s.startup ∧
      (s.setUnit i g t).marker = s.marker ∧
      (s.setUnit i g t).settings = s.settings ∧
      (s.setUnit i g t).linkA = s.linkA ∧
      (s.setUnit i g t).linkB = s.linkB ∧
      (s.setUnit i g t).cport = s.cport ∧
      (s.setUnit i g t).et = s.et ∧
      (s.setUnit i g t).readers = s.readers ∧
      (s.setUnit i g t).storeMap = s.storeMap ∧
      (s.setUnit i g t).media = s.media ∧
      (s.setUnit i g t).clock = s.clock ∧
      (s.setUnit i g t).classes = s.classes ∧
      (s.setUnit i g t).holds = s.holds ∧
      (s.setUnit i g t).engine = s.engine ∧
      (s.setUnit i g t).journal = s.journal ∧
      (s.setUnit i g t).router = s.router ∧
      (s.setUnit i g t).freeCount = s.freeCount ∧
      (s.setUnit i g t).pending = s.pending := by simp [State.setUnit]

/-- What `State.endWrite` never changes. -/
@[simp] theorem State.endWrite_frame (s : State) (r : Extent) (res : Result) :
    (s.endWrite r res).phase = s.phase ∧
      (s.endWrite r res).startup = s.startup ∧
      (s.endWrite r res).marker = s.marker ∧
      (s.endWrite r res).settings = s.settings ∧
      (s.endWrite r res).et = s.et ∧
      (s.endWrite r res).readers = s.readers ∧
      (s.endWrite r res).storeMap = s.storeMap ∧
      (s.endWrite r res).write = s.write ∧
      (s.endWrite r res).media = s.media ∧
      (s.endWrite r res).clock = s.clock ∧
      (s.endWrite r res).classes = s.classes ∧
      (s.endWrite r res).holds = s.holds ∧
      (s.endWrite r res).engine = s.engine ∧
      (s.endWrite r res).journal = s.journal ∧
      (s.endWrite r res).freeCount = s.freeCount ∧
      (s.endWrite r res).pending = s.pending := by
  unfold State.endWrite
  repeat' split
  all_goals simp

/-- What `State.addReader` never changes. -/
@[simp] theorem State.addReader_frame (s : State) (n : Nat) :
    (s.addReader n).phase = s.phase ∧
      (s.addReader n).startup = s.startup ∧
      (s.addReader n).marker = s.marker ∧
      (s.addReader n).settings = s.settings ∧
      (s.addReader n).linkA = s.linkA ∧
      (s.addReader n).linkB = s.linkB ∧
      (s.addReader n).cport = s.cport ∧
      (s.addReader n).et = s.et ∧
      (s.addReader n).storeMap = s.storeMap ∧
      (s.addReader n).write = s.write ∧
      (s.addReader n).media = s.media ∧
      (s.addReader n).clock = s.clock ∧
      (s.addReader n).classes = s.classes ∧
      (s.addReader n).holds = s.holds ∧
      (s.addReader n).engine = s.engine ∧
      (s.addReader n).journal = s.journal ∧
      (s.addReader n).router = s.router ∧
      (s.addReader n).freeCount = s.freeCount ∧
      (s.addReader n).pending = s.pending := by simp [State.addReader]

/-- What `State.dropReader` never changes. -/
@[simp] theorem State.dropReader_frame (s : State) (n : Nat) :
    (s.dropReader n).phase = s.phase ∧
      (s.dropReader n).startup = s.startup ∧
      (s.dropReader n).marker = s.marker ∧
      (s.dropReader n).settings = s.settings ∧
      (s.dropReader n).linkA = s.linkA ∧
      (s.dropReader n).linkB = s.linkB ∧
      (s.dropReader n).cport = s.cport ∧
      (s.dropReader n).et = s.et ∧
      (s.dropReader n).storeMap = s.storeMap ∧
      (s.dropReader n).write = s.write ∧
      (s.dropReader n).media = s.media ∧
      (s.dropReader n).clock = s.clock ∧
      (s.dropReader n).classes = s.classes ∧
      (s.dropReader n).holds = s.holds ∧
      (s.dropReader n).engine = s.engine ∧
      (s.dropReader n).journal = s.journal ∧
      (s.dropReader n).router = s.router ∧
      (s.dropReader n).freeCount = s.freeCount ∧
      (s.dropReader n).pending = s.pending := by simp [State.dropReader]

/-- What `State.askPlace` never changes. -/
@[simp] theorem State.askPlace_frame (s : State) (r : PlaceRequest) :
    (s.askPlace r).phase = s.phase ∧
      (s.askPlace r).startup = s.startup ∧
      (s.askPlace r).marker = s.marker ∧
      (s.askPlace r).settings = s.settings ∧
      (s.askPlace r).linkA = s.linkA ∧
      (s.askPlace r).linkB = s.linkB ∧
      (s.askPlace r).cport = s.cport ∧
      (s.askPlace r).et = s.et ∧
      (s.askPlace r).readers = s.readers ∧
      (s.askPlace r).storeMap = s.storeMap ∧
      (s.askPlace r).write = s.write ∧
      (s.askPlace r).media = s.media ∧
      (s.askPlace r).clock = s.clock ∧
      (s.askPlace r).classes = s.classes ∧
      (s.askPlace r).holds = s.holds ∧
      (s.askPlace r).engine = s.engine ∧
      (s.askPlace r).router = s.router ∧
      (s.askPlace r).freeCount = s.freeCount ∧
      (s.askPlace r).pending = s.pending := by simp [State.askPlace]

/-- What `State.dropWait` never changes. -/
@[simp] theorem State.dropWait_frame (s : State) (r : PlaceRequest) :
    (s.dropWait r).phase = s.phase ∧
      (s.dropWait r).startup = s.startup ∧
      (s.dropWait r).marker = s.marker ∧
      (s.dropWait r).settings = s.settings ∧
      (s.dropWait r).linkA = s.linkA ∧
      (s.dropWait r).linkB = s.linkB ∧
      (s.dropWait r).cport = s.cport ∧
      (s.dropWait r).et = s.et ∧
      (s.dropWait r).readers = s.readers ∧
      (s.dropWait r).storeMap = s.storeMap ∧
      (s.dropWait r).write = s.write ∧
      (s.dropWait r).media = s.media ∧
      (s.dropWait r).clock = s.clock ∧
      (s.dropWait r).classes = s.classes ∧
      (s.dropWait r).holds = s.holds ∧
      (s.dropWait r).engine = s.engine ∧
      (s.dropWait r).router = s.router ∧
      (s.dropWait r).freeCount = s.freeCount ∧
      (s.dropWait r).pending = s.pending := by simp [State.dropWait]

/-- What `State.failSplit` never changes. -/
@[simp] theorem State.failSplit_frame (s : State) (c : Code) :
    (s.failSplit c).phase = s.phase ∧
      (s.failSplit c).startup = s.startup ∧
      (s.failSplit c).marker = s.marker ∧
      (s.failSplit c).settings = s.settings ∧
      (s.failSplit c).et = s.et ∧
      (s.failSplit c).readers = s.readers ∧
      (s.failSplit c).write = s.write ∧
      (s.failSplit c).media = s.media ∧
      (s.failSplit c).clock = s.clock ∧
      (s.failSplit c).classes = s.classes ∧
      (s.failSplit c).holds = s.holds ∧
      (s.failSplit c).engine = s.engine ∧
      (s.failSplit c).freeCount = s.freeCount ∧
      (s.failSplit c).pending = s.pending := by
  unfold State.failSplit
  try dsimp only
  split
  all_goals simp

/-- What `State.countExit` never changes. -/
@[simp] theorem State.countExit_frame (s : State) (e : QueueEntry) (x : Exit) :
    (s.countExit e x).phase = s.phase ∧
      (s.countExit e x).startup = s.startup ∧
      (s.countExit e x).marker = s.marker ∧
      (s.countExit e x).settings = s.settings ∧
      (s.countExit e x).et = s.et ∧
      (s.countExit e x).readers = s.readers ∧
      (s.countExit e x).storeMap = s.storeMap ∧
      (s.countExit e x).write = s.write ∧
      (s.countExit e x).media = s.media ∧
      (s.countExit e x).clock = s.clock ∧
      (s.countExit e x).classes = s.classes ∧
      (s.countExit e x).holds = s.holds ∧
      (s.countExit e x).engine = s.engine ∧
      (s.countExit e x).journal = s.journal ∧
      (s.countExit e x).freeCount = s.freeCount ∧
      (s.countExit e x).pending = s.pending := by
  unfold State.countExit
  try dsimp only
  repeat' split
  all_goals simp

/-- What `State.leaveQueue` never changes. -/
@[simp] theorem State.leaveQueue_frame (s : State) (e : QueueEntry) (x : Exit) :
    (s.leaveQueue e x).phase = s.phase ∧
      (s.leaveQueue e x).startup = s.startup ∧
      (s.leaveQueue e x).marker = s.marker ∧
      (s.leaveQueue e x).settings = s.settings ∧
      (s.leaveQueue e x).et = s.et ∧
      (s.leaveQueue e x).readers = s.readers ∧
      (s.leaveQueue e x).storeMap = s.storeMap ∧
      (s.leaveQueue e x).write = s.write ∧
      (s.leaveQueue e x).media = s.media ∧
      (s.leaveQueue e x).clock = s.clock ∧
      (s.leaveQueue e x).classes = s.classes ∧
      (s.leaveQueue e x).holds = s.holds ∧
      (s.leaveQueue e x).journal = s.journal ∧
      (s.leaveQueue e x).freeCount = s.freeCount ∧
      (s.leaveQueue e x).pending = s.pending := by simp [State.leaveQueue]

/-- What `State.returnEntry` never changes. -/
@[simp] theorem State.returnEntry_frame (s : State) (e : QueueEntry) :
    (s.returnEntry e).phase = s.phase ∧
      (s.returnEntry e).startup = s.startup ∧
      (s.returnEntry e).marker = s.marker ∧
      (s.returnEntry e).settings = s.settings ∧
      (s.returnEntry e).readers = s.readers ∧
      (s.returnEntry e).storeMap = s.storeMap ∧
      (s.returnEntry e).write = s.write ∧
      (s.returnEntry e).media = s.media ∧
      (s.returnEntry e).clock = s.clock ∧
      (s.returnEntry e).classes = s.classes ∧
      (s.returnEntry e).holds = s.holds ∧
      (s.returnEntry e).journal = s.journal ∧
      (s.returnEntry e).freeCount = s.freeCount ∧
      (s.returnEntry e).pending = s.pending := by
  unfold State.returnEntry
  split
  all_goals simp

/-- What `State.setStage` never changes. -/
@[simp] theorem State.setStage_frame (s : State) (g : Stage) :
    (s.setStage g).phase = s.phase ∧
      (s.setStage g).startup = s.startup ∧
      (s.setStage g).marker = s.marker ∧
      (s.setStage g).settings = s.settings ∧
      (s.setStage g).linkA = s.linkA ∧
      (s.setStage g).linkB = s.linkB ∧
      (s.setStage g).cport = s.cport ∧
      (s.setStage g).et = s.et ∧
      (s.setStage g).readers = s.readers ∧
      (s.setStage g).storeMap = s.storeMap ∧
      (s.setStage g).write = s.write ∧
      (s.setStage g).media = s.media ∧
      (s.setStage g).clock = s.clock ∧
      (s.setStage g).classes = s.classes ∧
      (s.setStage g).holds = s.holds ∧
      (s.setStage g).journal = s.journal ∧
      (s.setStage g).router = s.router ∧
      (s.setStage g).freeCount = s.freeCount ∧
      (s.setStage g).pending = s.pending := by simp [State.setStage]

/-- What `State.returnHead` never changes. -/
@[simp] theorem State.returnHead_frame (s : State) :
    (s.returnHead).phase = s.phase ∧
      (s.returnHead).startup = s.startup ∧
      (s.returnHead).marker = s.marker ∧
      (s.returnHead).settings = s.settings ∧
      (s.returnHead).readers = s.readers ∧
      (s.returnHead).storeMap = s.storeMap ∧
      (s.returnHead).write = s.write ∧
      (s.returnHead).media = s.media ∧
      (s.returnHead).clock = s.clock ∧
      (s.returnHead).classes = s.classes ∧
      (s.returnHead).holds = s.holds ∧
      (s.returnHead).journal = s.journal ∧
      (s.returnHead).freeCount = s.freeCount ∧
      (s.returnHead).pending = s.pending := by
  unfold State.returnHead
  repeat' split
  all_goals simp

/-- A fold of returns to COMMITTED changes only what one return changes. -/
@[simp] theorem State.foldl_returnEntry_frame (l : List QueueEntry) (s : State) :
    (l.foldl State.returnEntry s).phase = s.phase ∧
      (l.foldl State.returnEntry s).startup = s.startup ∧
      (l.foldl State.returnEntry s).marker = s.marker ∧
      (l.foldl State.returnEntry s).settings = s.settings ∧
      (l.foldl State.returnEntry s).readers = s.readers ∧
      (l.foldl State.returnEntry s).storeMap = s.storeMap ∧
      (l.foldl State.returnEntry s).write = s.write ∧
      (l.foldl State.returnEntry s).media = s.media ∧
      (l.foldl State.returnEntry s).clock = s.clock ∧
      (l.foldl State.returnEntry s).classes = s.classes ∧
      (l.foldl State.returnEntry s).holds = s.holds ∧
      (l.foldl State.returnEntry s).journal = s.journal ∧
      (l.foldl State.returnEntry s).freeCount = s.freeCount ∧
      (l.foldl State.returnEntry s).pending = s.pending := by
  induction l generalizing s with
  | nil => simp
  | cons e l ih => simp [ih]

/-- What `State.returnQueue` never changes. -/
@[simp] theorem State.returnQueue_frame (s : State) :
    (s.returnQueue).phase = s.phase ∧
      (s.returnQueue).startup = s.startup ∧
      (s.returnQueue).marker = s.marker ∧
      (s.returnQueue).settings = s.settings ∧
      (s.returnQueue).readers = s.readers ∧
      (s.returnQueue).storeMap = s.storeMap ∧
      (s.returnQueue).write = s.write ∧
      (s.returnQueue).clock = s.clock ∧
      (s.returnQueue).classes = s.classes ∧
      (s.returnQueue).holds = s.holds ∧
      (s.returnQueue).journal = s.journal ∧
      (s.returnQueue).freeCount = s.freeCount ∧
      (s.returnQueue).pending = s.pending := by
  unfold State.returnQueue
  split
  all_goals simp

/-- What `State.exhaust` never changes. -/
@[simp] theorem State.exhaust_frame (s : State) :
    (s.exhaust).phase = s.phase ∧
      (s.exhaust).startup = s.startup ∧
      (s.exhaust).marker = s.marker ∧
      (s.exhaust).settings = s.settings ∧
      (s.exhaust).readers = s.readers ∧
      (s.exhaust).write = s.write ∧
      (s.exhaust).clock = s.clock ∧
      (s.exhaust).classes = s.classes ∧
      (s.exhaust).holds = s.holds ∧
      (s.exhaust).freeCount = s.freeCount ∧
      (s.exhaust).pending = s.pending := by simp [State.exhaust]

/-- What `State.enter` never changes. -/
@[simp] theorem State.enter_frame (s : State) (o : Origin) (u : Subject) :
    (s.enter o u).phase = s.phase ∧
      (s.enter o u).startup = s.startup ∧
      (s.enter o u).marker = s.marker ∧
      (s.enter o u).settings = s.settings ∧
      (s.enter o u).linkA = s.linkA ∧
      (s.enter o u).linkB = s.linkB ∧
      (s.enter o u).cport = s.cport ∧
      (s.enter o u).et = s.et ∧
      (s.enter o u).readers = s.readers ∧
      (s.enter o u).storeMap = s.storeMap ∧
      (s.enter o u).write = s.write ∧
      (s.enter o u).media = s.media ∧
      (s.enter o u).clock = s.clock ∧
      (s.enter o u).classes = s.classes ∧
      (s.enter o u).holds = s.holds ∧
      (s.enter o u).engine = s.engine ∧
      (s.enter o u).router = s.router ∧
      (s.enter o u).freeCount = s.freeCount ∧
      (s.enter o u).pending = s.pending := by simp [State.enter]

/-- What `State.countOverflow` never changes. -/
@[simp] theorem State.countOverflow_frame (s : State) :
    (s.countOverflow).phase = s.phase ∧
      (s.countOverflow).startup = s.startup ∧
      (s.countOverflow).marker = s.marker ∧
      (s.countOverflow).settings = s.settings ∧
      (s.countOverflow).linkA = s.linkA ∧
      (s.countOverflow).linkB = s.linkB ∧
      (s.countOverflow).cport = s.cport ∧
      (s.countOverflow).et = s.et ∧
      (s.countOverflow).readers = s.readers ∧
      (s.countOverflow).storeMap = s.storeMap ∧
      (s.countOverflow).write = s.write ∧
      (s.countOverflow).media = s.media ∧
      (s.countOverflow).clock = s.clock ∧
      (s.countOverflow).classes = s.classes ∧
      (s.countOverflow).holds = s.holds ∧
      (s.countOverflow).engine = s.engine ∧
      (s.countOverflow).router = s.router ∧
      (s.countOverflow).freeCount = s.freeCount ∧
      (s.countOverflow).pending = s.pending := by simp [State.countOverflow]

/-- What `State.record` never changes. -/
@[simp] theorem State.record_frame (s : State) (o : Origin) (u : Subject) :
    (s.record o u).phase = s.phase ∧
      (s.record o u).startup = s.startup ∧
      (s.record o u).marker = s.marker ∧
      (s.record o u).settings = s.settings ∧
      (s.record o u).linkA = s.linkA ∧
      (s.record o u).linkB = s.linkB ∧
      (s.record o u).cport = s.cport ∧
      (s.record o u).et = s.et ∧
      (s.record o u).readers = s.readers ∧
      (s.record o u).storeMap = s.storeMap ∧
      (s.record o u).write = s.write ∧
      (s.record o u).media = s.media ∧
      (s.record o u).clock = s.clock ∧
      (s.record o u).classes = s.classes ∧
      (s.record o u).holds = s.holds ∧
      (s.record o u).engine = s.engine ∧
      (s.record o u).router = s.router ∧
      (s.record o u).freeCount = s.freeCount ∧
      (s.record o u).pending = s.pending := by
  unfold State.record
  repeat' split
  all_goals simp

/-- What `State.fly` never changes. -/
@[simp] theorem State.fly_frame (s : State) (op : MediaOp) :
    (s.fly op).phase = s.phase ∧
      (s.fly op).startup = s.startup ∧
      (s.fly op).marker = s.marker ∧
      (s.fly op).settings = s.settings ∧
      (s.fly op).linkA = s.linkA ∧
      (s.fly op).linkB = s.linkB ∧
      (s.fly op).cport = s.cport ∧
      (s.fly op).et = s.et ∧
      (s.fly op).readers = s.readers ∧
      (s.fly op).storeMap = s.storeMap ∧
      (s.fly op).write = s.write ∧
      (s.fly op).clock = s.clock ∧
      (s.fly op).classes = s.classes ∧
      (s.fly op).holds = s.holds ∧
      (s.fly op).engine = s.engine ∧
      (s.fly op).journal = s.journal ∧
      (s.fly op).router = s.router ∧
      (s.fly op).freeCount = s.freeCount ∧
      (s.fly op).pending = s.pending := by simp [State.fly]

/-- What `State.judgeStore` never changes. -/
@[simp] theorem State.judgeStore_frame (s : State) (i : Nat) :
    (s.judgeStore i).phase = s.phase ∧
      (s.judgeStore i).startup = s.startup ∧
      (s.judgeStore i).marker = s.marker ∧
      (s.judgeStore i).settings = s.settings ∧
      (s.judgeStore i).et = s.et ∧
      (s.judgeStore i).readers = s.readers ∧
      (s.judgeStore i).write = s.write ∧
      (s.judgeStore i).media = s.media ∧
      (s.judgeStore i).clock = s.clock ∧
      (s.judgeStore i).classes = s.classes ∧
      (s.judgeStore i).holds = s.holds ∧
      (s.judgeStore i).engine = s.engine ∧
      (s.judgeStore i).freeCount = s.freeCount ∧
      (s.judgeStore i).pending = s.pending := by
  unfold State.judgeStore
  try dsimp only
  repeat' split
  all_goals simp

/-- What `State.issueProgram` never changes. -/
@[simp] theorem State.issueProgram_frame (s : State) (op : MediaOp) (i : Nat) (b : Bool) :
    (s.issueProgram op i b).phase = s.phase ∧
      (s.issueProgram op i b).startup = s.startup ∧
      (s.issueProgram op i b).marker = s.marker ∧
      (s.issueProgram op i b).settings = s.settings ∧
      (s.issueProgram op i b).et = s.et ∧
      (s.issueProgram op i b).readers = s.readers ∧
      (s.issueProgram op i b).write = s.write ∧
      (s.issueProgram op i b).clock = s.clock ∧
      (s.issueProgram op i b).classes = s.classes ∧
      (s.issueProgram op i b).holds = s.holds ∧
      (s.issueProgram op i b).engine = s.engine ∧
      (s.issueProgram op i b).freeCount = s.freeCount ∧
      (s.issueProgram op i b).pending = s.pending := by
  unfold State.issueProgram
  repeat' split
  all_goals simp

/-- What `State.issueScrub` never changes. -/
@[simp] theorem State.issueScrub_frame (s : State) (op : MediaOp) (n : Nat) :
    (s.issueScrub op n).phase = s.phase ∧
      (s.issueScrub op n).startup = s.startup ∧
      (s.issueScrub op n).marker = s.marker ∧
      (s.issueScrub op n).settings = s.settings ∧
      (s.issueScrub op n).readers = s.readers ∧
      (s.issueScrub op n).storeMap = s.storeMap ∧
      (s.issueScrub op n).write = s.write ∧
      (s.issueScrub op n).clock = s.clock ∧
      (s.issueScrub op n).classes = s.classes ∧
      (s.issueScrub op n).holds = s.holds ∧
      (s.issueScrub op n).journal = s.journal ∧
      (s.issueScrub op n).freeCount = s.freeCount ∧
      (s.issueScrub op n).pending = s.pending := by
  unfold State.issueScrub
  repeat' split
  all_goals simp

/-- What `State.issuePage` never changes. -/
@[simp] theorem State.issuePage_frame (s : State) (op : MediaOp) :
    (s.issuePage op).phase = s.phase ∧
      (s.issuePage op).startup = s.startup ∧
      (s.issuePage op).marker = s.marker ∧
      (s.issuePage op).settings = s.settings ∧
      (s.issuePage op).readers = s.readers ∧
      (s.issuePage op).write = s.write ∧
      (s.issuePage op).clock = s.clock ∧
      (s.issuePage op).classes = s.classes ∧
      (s.issuePage op).holds = s.holds ∧
      (s.issuePage op).freeCount = s.freeCount ∧
      (s.issuePage op).pending = s.pending := by
  unfold State.issuePage
  try dsimp only
  repeat' split
  all_goals simp

/-- What `State.issue` never changes. -/
@[simp] theorem State.issue_frame (s : State) (op : MediaOp) :
    (s.issue op).phase = s.phase ∧
      (s.issue op).startup = s.startup ∧
      (s.issue op).marker = s.marker ∧
      (s.issue op).settings = s.settings ∧
      (s.issue op).readers = s.readers ∧
      (s.issue op).write = s.write ∧
      (s.issue op).clock = s.clock ∧
      (s.issue op).classes = s.classes ∧
      (s.issue op).holds = s.holds ∧
      (s.issue op).freeCount = s.freeCount ∧
      (s.issue op).pending = s.pending := by
  unfold State.issue
  repeat' split
  all_goals simp

/-- What `State.grant` never changes. -/
@[simp] theorem State.grant_frame (s : State) :
    (s.grant).phase = s.phase ∧
      (s.grant).startup = s.startup ∧
      (s.grant).marker = s.marker ∧
      (s.grant).settings = s.settings ∧
      (s.grant).readers = s.readers ∧
      (s.grant).write = s.write ∧
      (s.grant).clock = s.clock ∧
      (s.grant).classes = s.classes ∧
      (s.grant).holds = s.holds ∧
      (s.grant).freeCount = s.freeCount ∧
      (s.grant).pending = s.pending := by
  unfold State.grant
  repeat' split
  all_goals simp

/-- What `State.place` never changes. -/
@[simp] theorem State.place_frame (s : State) (op : MediaOp) :
    (s.place op).phase = s.phase ∧
      (s.place op).startup = s.startup ∧
      (s.place op).marker = s.marker ∧
      (s.place op).settings = s.settings ∧
      (s.place op).readers = s.readers ∧
      (s.place op).write = s.write ∧
      (s.place op).clock = s.clock ∧
      (s.place op).classes = s.classes ∧
      (s.place op).holds = s.holds ∧
      (s.place op).freeCount = s.freeCount ∧
      (s.place op).pending = s.pending := by
  unfold State.place
  try dsimp only
  split
  all_goals simp

/-- What `State.complete` never changes. -/
@[simp] theorem State.complete_frame (s : State) :
    (s.complete).phase = s.phase ∧
      (s.complete).startup = s.startup ∧
      (s.complete).marker = s.marker ∧
      (s.complete).settings = s.settings ∧
      (s.complete).readers = s.readers ∧
      (s.complete).write = s.write ∧
      (s.complete).clock = s.clock ∧
      (s.complete).classes = s.classes ∧
      (s.complete).holds = s.holds ∧
      (s.complete).freeCount = s.freeCount ∧
      (s.complete).pending = s.pending := by simp [State.complete]

/-- What `State.judgePage` never changes. -/
@[simp] theorem State.judgePage_frame (s : State) :
    (s.judgePage).phase = s.phase ∧
      (s.judgePage).startup = s.startup ∧
      (s.judgePage).marker = s.marker ∧
      (s.judgePage).settings = s.settings ∧
      (s.judgePage).readers = s.readers ∧
      (s.judgePage).write = s.write ∧
      (s.judgePage).clock = s.clock ∧
      (s.judgePage).classes = s.classes ∧
      (s.judgePage).holds = s.holds ∧
      (s.judgePage).freeCount = s.freeCount ∧
      (s.judgePage).pending = s.pending := by
  unfold State.judgePage
  repeat' split
  all_goals simp

/-- What `State.recordChange` never changes. -/
@[simp] theorem State.recordChange_frame (s : State) (b : ClockState) :
    (s.recordChange b).phase = s.phase ∧
      (s.recordChange b).startup = s.startup ∧
      (s.recordChange b).marker = s.marker ∧
      (s.recordChange b).settings = s.settings ∧
      (s.recordChange b).readers = s.readers ∧
      (s.recordChange b).write = s.write ∧
      (s.recordChange b).clock = s.clock ∧
      (s.recordChange b).classes = s.classes ∧
      (s.recordChange b).holds = s.holds ∧
      (s.recordChange b).freeCount = s.freeCount ∧
      (s.recordChange b).pending = s.pending := by
  unfold State.recordChange
  repeat' split
  all_goals simp

/-- What `State.changeClock` never changes. -/
@[simp] theorem State.changeClock_frame (s : State) (c : Clock) :
    (s.changeClock c).phase = s.phase ∧
      (s.changeClock c).startup = s.startup ∧
      (s.changeClock c).marker = s.marker ∧
      (s.changeClock c).settings = s.settings ∧
      (s.changeClock c).readers = s.readers ∧
      (s.changeClock c).write = s.write ∧
      (s.changeClock c).classes = s.classes ∧
      (s.changeClock c).holds = s.holds ∧
      (s.changeClock c).freeCount = s.freeCount ∧
      (s.changeClock c).pending = s.pending := by
  unfold State.changeClock
  repeat' split
  all_goals simp

/-- What `State.settleSplit` never changes. -/
@[simp] theorem State.settleSplit_frame (s : State) :
    (s.settleSplit).phase = s.phase ∧
      (s.settleSplit).startup = s.startup ∧
      (s.settleSplit).marker = s.marker ∧
      (s.settleSplit).settings = s.settings ∧
      (s.settleSplit).et = s.et ∧
      (s.settleSplit).readers = s.readers ∧
      (s.settleSplit).write = s.write ∧
      (s.settleSplit).media = s.media ∧
      (s.settleSplit).clock = s.clock ∧
      (s.settleSplit).classes = s.classes ∧
      (s.settleSplit).holds = s.holds ∧
      (s.settleSplit).engine = s.engine ∧
      (s.settleSplit).freeCount = s.freeCount ∧
      (s.settleSplit).pending = s.pending := by
  unfold State.settleSplit
  try dsimp only
  repeat' split
  all_goals simp

/-- What `State.askSplit` never changes. -/
@[simp] theorem State.askSplit_frame (s : State) :
    (s.askSplit).phase = s.phase ∧
      (s.askSplit).startup = s.startup ∧
      (s.askSplit).marker = s.marker ∧
      (s.askSplit).settings = s.settings ∧
      (s.askSplit).et = s.et ∧
      (s.askSplit).readers = s.readers ∧
      (s.askSplit).write = s.write ∧
      (s.askSplit).media = s.media ∧
      (s.askSplit).clock = s.clock ∧
      (s.askSplit).classes = s.classes ∧
      (s.askSplit).holds = s.holds ∧
      (s.askSplit).engine = s.engine ∧
      (s.askSplit).freeCount = s.freeCount ∧
      (s.askSplit).pending = s.pending := by
  unfold State.askSplit
  try dsimp only
  repeat' split
  all_goals simp

/-- What `State.judgeSince` never changes. -/
@[simp] theorem State.judgeSince_frame (t s : State) :
    (t.judgeSince s).phase = t.phase ∧
      (t.judgeSince s).startup = t.startup ∧
      (t.judgeSince s).marker = t.marker ∧
      (t.judgeSince s).settings = t.settings ∧
      (t.judgeSince s).readers = t.readers ∧
      (t.judgeSince s).write = t.write ∧
      (t.judgeSince s).clock = t.clock ∧
      (t.judgeSince s).classes = t.classes ∧
      (t.judgeSince s).holds = t.holds ∧
      (t.judgeSince s).freeCount = t.freeCount ∧
      (t.judgeSince s).pending = t.pending := by
  unfold State.judgeSince
  split
  all_goals simp

/-- What `State.clearStore` never changes. -/
@[simp] theorem State.clearStore_frame (s : State) (i : Nat) :
    (s.clearStore i).phase = s.phase ∧
      (s.clearStore i).startup = s.startup ∧
      (s.clearStore i).marker = s.marker ∧
      (s.clearStore i).settings = s.settings ∧
      (s.clearStore i).et = s.et ∧
      (s.clearStore i).readers = s.readers ∧
      (s.clearStore i).write = s.write ∧
      (s.clearStore i).media = s.media ∧
      (s.clearStore i).clock = s.clock ∧
      (s.clearStore i).classes = s.classes ∧
      (s.clearStore i).holds = s.holds ∧
      (s.clearStore i).engine = s.engine ∧
      (s.clearStore i).freeCount = s.freeCount ∧
      (s.clearStore i).pending = s.pending := by simp [State.clearStore]

/-- What `State.voidExtent` never changes. -/
@[simp] theorem State.voidExtent_frame (s : State) (r : Extent) (o : Origin) (c : VoidCause) :
    (s.voidExtent r o c).phase = s.phase ∧
      (s.voidExtent r o c).startup = s.startup ∧
      (s.voidExtent r o c).marker = s.marker ∧
      (s.voidExtent r o c).settings = s.settings ∧
      (s.voidExtent r o c).readers = s.readers ∧
      (s.voidExtent r o c).media = s.media ∧
      (s.voidExtent r o c).clock = s.clock ∧
      (s.voidExtent r o c).classes = s.classes ∧
      (s.voidExtent r o c).holds = s.holds ∧
      (s.voidExtent r o c).engine = s.engine ∧
      (s.voidExtent r o c).freeCount = s.freeCount ∧
      (s.voidExtent r o c).pending = s.pending := by
  unfold State.voidExtent
  try dsimp only
  repeat' split
  all_goals simp

/-- What `State.settleMediaFault` never changes. -/
@[simp] theorem State.settleMediaFault_frame (s : State) (i : Nat) :
    (s.settleMediaFault i).phase = s.phase ∧
      (s.settleMediaFault i).startup = s.startup ∧
      (s.settleMediaFault i).marker = s.marker ∧
      (s.settleMediaFault i).settings = s.settings ∧
      (s.settleMediaFault i).readers = s.readers ∧
      (s.settleMediaFault i).media = s.media ∧
      (s.settleMediaFault i).clock = s.clock ∧
      (s.settleMediaFault i).classes = s.classes ∧
      (s.settleMediaFault i).holds = s.holds ∧
      (s.settleMediaFault i).engine = s.engine ∧
      (s.settleMediaFault i).freeCount = s.freeCount ∧
      (s.settleMediaFault i).pending = s.pending := by
  unfold State.settleMediaFault
  try dsimp only
  repeat' split
  all_goals simp

/-- What `State.settleOpenTimeout` never changes. -/
@[simp] theorem State.settleOpenTimeout_frame (s : State) (i : Nat) :
    (s.settleOpenTimeout i).phase = s.phase ∧
      (s.settleOpenTimeout i).startup = s.startup ∧
      (s.settleOpenTimeout i).marker = s.marker ∧
      (s.settleOpenTimeout i).settings = s.settings ∧
      (s.settleOpenTimeout i).readers = s.readers ∧
      (s.settleOpenTimeout i).media = s.media ∧
      (s.settleOpenTimeout i).clock = s.clock ∧
      (s.settleOpenTimeout i).classes = s.classes ∧
      (s.settleOpenTimeout i).holds = s.holds ∧
      (s.settleOpenTimeout i).engine = s.engine ∧
      (s.settleOpenTimeout i).freeCount = s.freeCount ∧
      (s.settleOpenTimeout i).pending = s.pending := by
  unfold State.settleOpenTimeout
  try dsimp only
  repeat' split
  all_goals simp

/-- What `State.settleRecovery` never changes. -/
@[simp] theorem State.settleRecovery_frame (s : State) (n : Nat) :
    (s.settleRecovery n).phase = s.phase ∧
      (s.settleRecovery n).marker = s.marker ∧
      (s.settleRecovery n).settings = s.settings ∧
      (s.settleRecovery n).readers = s.readers ∧
      (s.settleRecovery n).media = s.media ∧
      (s.settleRecovery n).clock = s.clock ∧
      (s.settleRecovery n).classes = s.classes ∧
      (s.settleRecovery n).holds = s.holds ∧
      (s.settleRecovery n).engine = s.engine ∧
      (s.settleRecovery n).freeCount = s.freeCount ∧
      (s.settleRecovery n).pending = s.pending := by
  unfold State.settleRecovery
  try dsimp only
  repeat' split
  all_goals simp

/-- What `State.settleIntegrity` never changes. -/
@[simp] theorem State.settleIntegrity_frame (s : State) (ref : SlotRef) :
    (s.settleIntegrity ref).phase = s.phase ∧
      (s.settleIntegrity ref).startup = s.startup ∧
      (s.settleIntegrity ref).marker = s.marker ∧
      (s.settleIntegrity ref).settings = s.settings ∧
      (s.settleIntegrity ref).storeMap = s.storeMap ∧
      (s.settleIntegrity ref).write = s.write ∧
      (s.settleIntegrity ref).media = s.media ∧
      (s.settleIntegrity ref).clock = s.clock ∧
      (s.settleIntegrity ref).classes = s.classes ∧
      (s.settleIntegrity ref).holds = s.holds ∧
      (s.settleIntegrity ref).engine = s.engine ∧
      (s.settleIntegrity ref).freeCount = s.freeCount ∧
      (s.settleIntegrity ref).pending = s.pending := by
  unfold State.settleIntegrity
  try dsimp only
  repeat' split
  all_goals simp

/-- What `State.settleDisposed` never changes. -/
@[simp] theorem State.settleDisposed_frame (s : State) :
    (s.settleDisposed).phase = s.phase ∧
      (s.settleDisposed).startup = s.startup ∧
      (s.settleDisposed).marker = s.marker ∧
      (s.settleDisposed).settings = s.settings ∧
      (s.settleDisposed).readers = s.readers ∧
      (s.settleDisposed).storeMap = s.storeMap ∧
      (s.settleDisposed).write = s.write ∧
      (s.settleDisposed).media = s.media ∧
      (s.settleDisposed).clock = s.clock ∧
      (s.settleDisposed).classes = s.classes ∧
      (s.settleDisposed).holds = s.holds ∧
      (s.settleDisposed).freeCount = s.freeCount ∧
      (s.settleDisposed).pending = s.pending := by
  unfold State.settleDisposed
  try dsimp only
  repeat' split
  all_goals simp

/-- What `State.settleDisposalFailed` never changes. -/
@[simp] theorem State.settleDisposalFailed_frame (s : State) :
    (s.settleDisposalFailed).phase = s.phase ∧
      (s.settleDisposalFailed).startup = s.startup ∧
      (s.settleDisposalFailed).marker = s.marker ∧
      (s.settleDisposalFailed).settings = s.settings ∧
      (s.settleDisposalFailed).readers = s.readers ∧
      (s.settleDisposalFailed).storeMap = s.storeMap ∧
      (s.settleDisposalFailed).write = s.write ∧
      (s.settleDisposalFailed).media = s.media ∧
      (s.settleDisposalFailed).clock = s.clock ∧
      (s.settleDisposalFailed).classes = s.classes ∧
      (s.settleDisposalFailed).holds = s.holds ∧
      (s.settleDisposalFailed).freeCount = s.freeCount ∧
      (s.settleDisposalFailed).pending = s.pending := by
  unfold State.settleDisposalFailed
  try dsimp only
  repeat' split
  all_goals simp

/-- What `State.settleStart` never changes. -/
@[simp] theorem State.settleStart_frame (s : State) :
    (s.settleStart).startup = s.startup ∧
      (s.settleStart).marker = s.marker ∧
      (s.settleStart).settings = s.settings ∧
      (s.settleStart).linkA = s.linkA ∧
      (s.settleStart).linkB = s.linkB ∧
      (s.settleStart).cport = s.cport ∧
      (s.settleStart).et = s.et ∧
      (s.settleStart).readers = s.readers ∧
      (s.settleStart).storeMap = s.storeMap ∧
      (s.settleStart).write = s.write ∧
      (s.settleStart).media = s.media ∧
      (s.settleStart).clock = s.clock ∧
      (s.settleStart).classes = s.classes ∧
      (s.settleStart).holds = s.holds ∧
      (s.settleStart).engine = s.engine ∧
      (s.settleStart).router = s.router ∧
      (s.settleStart).freeCount = s.freeCount ∧
      (s.settleStart).pending = s.pending := by
  unfold State.settleStart
  split
  all_goals simp

/-- What `State.settle` never changes. -/
@[simp] theorem State.settle_frame (s : State) (r : PlaceRequest) :
    (s.settle r).marker = s.marker ∧
      (s.settle r).settings = s.settings ∧
      (s.settle r).media = s.media ∧
      (s.settle r).clock = s.clock ∧
      (s.settle r).classes = s.classes ∧
      (s.settle r).holds = s.holds ∧
      (s.settle r).freeCount = s.freeCount ∧
      (s.settle r).pending = s.pending := by
  unfold State.settle
  split
  all_goals simp

/-- What `State.request` never changes. -/
@[simp] theorem State.request_frame (s : State) (r : PlaceRequest) :
    (s.request r).marker = s.marker ∧
      (s.request r).settings = s.settings ∧
      (s.request r).clock = s.clock ∧
      (s.request r).classes = s.classes ∧
      (s.request r).holds = s.holds ∧
      (s.request r).freeCount = s.freeCount ∧
      (s.request r).pending = s.pending := by
  unfold State.request
  try dsimp only
  repeat' split
  all_goals simp

/-- What `State.grantPlace` never changes. -/
@[simp] theorem State.grantPlace_frame (s : State) (r : PlaceRequest) :
    (s.grantPlace r).marker = s.marker ∧
      (s.grantPlace r).settings = s.settings ∧
      (s.grantPlace r).clock = s.clock ∧
      (s.grantPlace r).classes = s.classes ∧
      (s.grantPlace r).holds = s.holds ∧
      (s.grantPlace r).freeCount = s.freeCount ∧
      (s.grantPlace r).pending = s.pending := by
  unfold State.grantPlace
  try dsimp only
  repeat' split
  all_goals simp

/-- What `State.grantMark` never changes. -/
@[simp] theorem State.grantMark_frame (s : State) :
    (s.grantMark).phase = s.phase ∧
      (s.grantMark).startup = s.startup ∧
      (s.grantMark).marker = s.marker ∧
      (s.grantMark).settings = s.settings ∧
      (s.grantMark).linkA = s.linkA ∧
      (s.grantMark).linkB = s.linkB ∧
      (s.grantMark).cport = s.cport ∧
      (s.grantMark).et = s.et ∧
      (s.grantMark).readers = s.readers ∧
      (s.grantMark).storeMap = s.storeMap ∧
      (s.grantMark).write = s.write ∧
      (s.grantMark).media = s.media ∧
      (s.grantMark).clock = s.clock ∧
      (s.grantMark).classes = s.classes ∧
      (s.grantMark).holds = s.holds ∧
      (s.grantMark).engine = s.engine ∧
      (s.grantMark).router = s.router ∧
      (s.grantMark).freeCount = s.freeCount ∧
      (s.grantMark).pending = s.pending := by
  unfold State.grantMark
  try dsimp only
  repeat' split
  all_goals simp

/-- Grants in a row change only what one settlement changes. -/
@[simp] theorem State.grantWaits_frame (n : Nat) (s : State) :
    (s.grantWaits n).marker = s.marker ∧
      (s.grantWaits n).settings = s.settings ∧
      (s.grantWaits n).media = s.media ∧
      (s.grantWaits n).clock = s.clock ∧
      (s.grantWaits n).classes = s.classes ∧
      (s.grantWaits n).holds = s.holds ∧
      (s.grantWaits n).freeCount = s.freeCount ∧
      (s.grantWaits n).pending = s.pending := by
  induction n generalizing s with
  | zero => simp [State.grantWaits]
  | succ n ih =>
    unfold State.grantWaits
    split
    · simp
    · split <;> simp [ih]

/-- What `State.grantPlaces` never changes. -/
@[simp] theorem State.grantPlaces_frame (s : State) :
    (s.grantPlaces).marker = s.marker ∧
      (s.grantPlaces).settings = s.settings ∧
      (s.grantPlaces).media = s.media ∧
      (s.grantPlaces).clock = s.clock ∧
      (s.grantPlaces).classes = s.classes ∧
      (s.grantPlaces).holds = s.holds ∧
      (s.grantPlaces).freeCount = s.freeCount ∧
      (s.grantPlaces).pending = s.pending := by simp [State.grantPlaces]

end Sys2Proof.Machine
end

