-- ==== Sys2Proof/Laws/Access.lean ====
section
/-! SUPPORT. Reading links, slots, extent records and pending sets after the shared operations. -/

namespace Sys2Proof.Machine

/-! ### Links and slots -/

@[simp] theorem State.link_withLink_same (s : State) (n : Node) (l : LinkState) : (s.withLink n l).link n = l := by
  cases n <;> rfl

theorem State.link_withLink (s : State) (n m : Node) (l : LinkState) :
    (s.withLink n l).link m = if m = n then l else s.link m := by
  cases n <;> cases m <;> rfl

theorem State.link_withLink_other (s : State) {n m : Node} (l : LinkState) (h : m ≠ n) :
    (s.withLink n l).link m = s.link m := by
  simp [State.link_withLink, h]

/-- A slot is read from the links and CPORT alone. -/
theorem State.slots_congr {s t : State} (ha : t.linkA = s.linkA) (hb : t.linkB = s.linkB) (hc : t.cport = s.cport) :
    t.slots = s.slots := by
  funext m
  cases m with
  | node n => cases n <;> simp [State.slots, State.link, ha, hb]
  | cport => simp [State.slots, hc]

theorem State.slot_congr {s t : State} (ha : t.linkA = s.linkA) (hb : t.linkB = s.linkB) (hc : t.cport = s.cport) :
    t.slot = s.slot := by
  funext ref
  simp [State.slot, State.slots_congr ha hb hc]

/-- The slots of a link or port after one of them is replaced. -/
theorem State.slots_setSlot (s : State) (ref : SlotRef) (v : Slot) (m : Master) :
    (s.setSlot ref v).slots m = if m = ref.master then (s.slots m).set ref.index v else s.slots m := by
  obtain ⟨master, i⟩ := ref
  cases master with
  | node n =>
    cases m with
    | node k => cases n <;> cases k <;> simp [State.setSlot, State.slots, State.link, State.withLink]
    | cport => cases n <;> simp [State.setSlot, State.slots, State.withLink]
  | cport =>
    cases m with
    | node k => cases k <;> simp [State.setSlot, State.slots, State.link]
    | cport => simp [State.setSlot, State.slots]

/-- One slot after one is replaced. -/
theorem State.slot_setSlot (s : State) (ref : SlotRef) (v : Slot) (r : SlotRef) :
    (s.setSlot ref v).slot r = if r = ref then (s.slot r).map (fun _ => v) else s.slot r := by
  obtain ⟨m, i⟩ := ref
  obtain ⟨m', i'⟩ := r
  simp only [State.slot, State.slots_setSlot, SlotRef.mk.injEq]
  by_cases hm : m' = m
  · subst hm
    by_cases hi : i' = i
    · subst hi
      simp only [and_self, if_true, List.getElem?_set]
      by_cases hl : i' < (s.slots m').length
      · simp [hl]
      · simp [hl]
    · simp [hi, Ne.symm hi]
  · simp [hm]

theorem State.slot_setSlot_same (s : State) {ref : SlotRef} {v w : Slot} (h : s.slot ref = some w) :
    (s.setSlot ref v).slot ref = some v := by
  simp [State.slot_setSlot, h]

theorem State.slot_setSlot_other (s : State) {ref r : SlotRef} (v : Slot) (h : r ≠ ref) :
    (s.setSlot ref v).slot r = s.slot r := by
  simp [State.slot_setSlot, h]

/-- What a link keeps when one of its slots is replaced: everything but the slots. -/
theorem State.link_setSlot (s : State) (ref : SlotRef) (v : Slot) (n : Node) :
    ∃ l, (s.setSlot ref v).link n = { s.link n with slots := l } := by
  obtain ⟨m, i⟩ := ref
  cases m with
  | node k =>
    by_cases h : n = k
    · subst h
      exact ⟨(s.link n).slots.set i v, by simp [State.setSlot]⟩
    · exact ⟨(s.link n).slots, by simp [State.setSlot, State.link_withLink, h]⟩
  | cport => exact ⟨(s.link n).slots, by cases n <;> simp [State.setSlot, State.link]⟩

/-- What CPORT keeps when one slot is replaced: everything but its slots. -/
theorem State.cport_setSlot (s : State) (ref : SlotRef) (v : Slot) :
    ∃ l, (s.setSlot ref v).cport = { s.cport with slots := l } := by
  obtain ⟨m, i⟩ := ref
  cases m with
  | node k => exact ⟨s.cport.slots, by simp [State.setSlot]⟩
  | cport => exact ⟨s.cport.slots.set i v, by simp [State.setSlot]⟩

theorem State.slots_raiseAt (s : State) (m : Master) (c : EventClass) : (s.raiseAt m c).slots = s.slots :=
  State.slots_congr (by simp) (by simp) (by simp)

theorem State.slot_raiseAt (s : State) (m : Master) (c : EventClass) : (s.raiseAt m c).slot = s.slot :=
  State.slot_congr (by simp) (by simp) (by simp)

/-- The slots after an operation ends (R168). -/
theorem State.slot_endSlot (s : State) (ref : SlotRef) (res : Result) (r : SlotRef) :
    (s.endSlot ref res).slot r =
      if r = ref then
        (s.slot r).map (fun v => match v with
          | .running h _ => .finished h res
          | .detached _ => .free
          | w => w)
      else s.slot r := by
  unfold State.endSlot
  split
  · next h w heq =>
    rw [State.slot_raiseAt, State.slot_setSlot]
    by_cases hr : r = ref
    · subst hr; simp [heq]
    · simp [hr]
  · next w heq =>
    rw [State.slot_setSlot]
    by_cases hr : r = ref
    · subst hr; simp [heq]
    · simp [hr]
  · next h1 h2 =>
    by_cases hr : r = ref
    · subst hr
      simp only [if_true]
      cases hv : s.slot r with
      | none => rfl
      | some v => cases v with
        | free => rfl
        | running h w => exact absurd hv (h1 h w)
        | finished h x => rfl
        | detached w => exact absurd hv (h2 w)
    · simp [hr]

/-- A RUNNING slot that ends is FINISHED with the result (R168). -/
theorem State.slot_endSlot_running (s : State) {ref : SlotRef} {h : Held} {w : Work} (res : Result)
    (hs : s.slot ref = some (.running h w)) : (s.endSlot ref res).slot ref = some (.finished h res) := by
  simp [State.slot_endSlot, hs]

/-! ### Extent records -/

theorem State.extent_number {s : State} {n : Nat} {r : Extent} (h : s.extent n = some r) : r.number = n := by
  have := List.find?_some h
  simpa using this

theorem State.extent_congr {s t : State} (h : t.et.records = s.et.records) : t.extent = s.extent := by
  funext n
  simp [State.extent, h]

/-- Looking up a number after a change that keeps every number. -/
theorem find?_map_number (l : List Extent) (g : Extent → Extent) (hg : ∀ r, (g r).number = r.number) (n : Nat) :
    (l.map g).find? (fun r => r.number == n) = (l.find? (fun r => r.number == n)).map g := by
  induction l with
  | nil => rfl
  | cons a l ih =>
    simp only [List.map_cons, List.find?_cons, hg]
    split
    · simp
    · exact ih

/-- The records after a change of one of them. -/
theorem State.extent_modExtent (s : State) (k : Nat) {f : Extent → Extent} (hf : ∀ r, (f r).number = r.number)
    (n : Nat) :
    (s.modExtent k f).extent n = (s.extent n).map (fun r => if n = k then f r else r) := by
  have hg : ∀ r : Extent, (if r.number == k then f r else r).number = r.number := by
    intro r; split <;> simp [hf]
  simp only [State.extent, State.modExtent, State.withEt_et]
  rw [find?_map_number _ _ hg]
  cases h : s.et.records.find? (fun r => r.number == n) with
  | none => rfl
  | some r =>
    have hn : r.number = n := by simpa using List.find?_some h
    simp [hn]

theorem State.extent_modExtent_same (s : State) {k : Nat} {f : Extent → Extent} {r : Extent}
    (hf : ∀ r, (f r).number = r.number) (h : s.extent k = some r) : (s.modExtent k f).extent k = some (f r) := by
  simp [State.extent_modExtent s k hf, h]

theorem State.extent_modExtent_other (s : State) {k n : Nat} {f : Extent → Extent}
    (hf : ∀ r, (f r).number = r.number) (h : n ≠ k) : (s.modExtent k f).extent n = s.extent n := by
  rw [State.extent_modExtent s k hf]
  simp [h]

/-- The numbers in the table are those before a change of one record. -/
theorem State.numbers_modExtent (s : State) (k : Nat) {f : Extent → Extent} (hf : ∀ r, (f r).number = r.number) :
    (s.modExtent k f).et.records.map (·.number) = s.et.records.map (·.number) := by
  simp only [State.modExtent, State.withEt_et, List.map_map]
  apply List.map_congr_left
  intro r _
  simp only [Function.comp]
  split <;> simp [hf]

@[simp] theorem State.modExtent_et (s : State) (k : Nat) (f : Extent → Extent) :
    (s.modExtent k f).et.next = s.et.next ∧ (s.modExtent k f).et.keys = s.et.keys := by
  simp [State.modExtent]

/-! ### Pending sets -/

theorem State.pendingSet_congr {s t : State} (h : t.router = s.router) : t.pendingSet = s.pendingSet := by
  funext m
  cases m with
  | node n => cases n <;> simp [State.pendingSet, h]
  | cport => simp [State.pendingSet, h]

/-- Raising a class on a target removes nothing from any pending set (R180). -/
theorem State.mem_raiseAt (s : State) (m : Master) (c : EventClass) {k : Master} {d : EventClass}
    (h : d ∈ s.pendingSet k) : d ∈ (s.raiseAt m c).pendingSet k := by
  unfold State.raiseAt
  split
  · exact h
  · rcases m with (_ | _) | _ <;> rcases k with (_ | _) | _ <;> dsimp only <;> (try split) <;>
      simp_all [State.pendingSet]

theorem State.mem_raise (s : State) (c : EventClass) (f : Option Master) {k : Master} {d : EventClass}
    (h : d ∈ s.pendingSet k) : d ∈ (s.raise c f).pendingSet k := by
  unfold State.raise
  dsimp only
  repeat' split
  all_goals
    repeat apply State.mem_raiseAt
    exact h

theorem State.mem_endSlot (s : State) (ref : SlotRef) (r : Result) {k : Master} {d : EventClass}
    (h : d ∈ s.pendingSet k) : d ∈ (s.endSlot ref r).pendingSet k := by
  have hs : ∀ v, d ∈ (s.setSlot ref v).pendingSet k := by
    intro v
    rw [State.pendingSet_congr (by simp : (s.setSlot ref v).router = s.router)]
    exact h
  unfold State.endSlot
  split
  · exact State.mem_raiseAt _ _ _ (hs _)
  · exact hs _
  · exact h

@[simp] theorem State.raiseAt_routes (s : State) (m : Master) (c : EventClass) :
    (s.raiseAt m c).router.routes = s.router.routes := by
  unfold State.raiseAt
  dsimp only
  repeat' split
  all_goals simp

@[simp] theorem State.raise_routes (s : State) (c : EventClass) (f : Option Master) :
    (s.raise c f).router.routes = s.router.routes := by
  unfold State.raise
  dsimp only
  repeat' split
  all_goals simp

@[simp] theorem State.endSlot_routes (s : State) (ref : SlotRef) (r : Result) :
    (s.endSlot ref r).router.routes = s.router.routes := by
  unfold State.endSlot
  split
  all_goals simp

end Sys2Proof.Machine
end

