-- ==== Sys2Proof/Laws/Aside.lean ====
section
/-! SUPPORT. What the Media Arbiter's grants may do beside the effect of a command, said once: `Aside s t` (Safety.lean) holds
of the state before and after placing, granting and completing operations, judging a page write, returning queued extents and
failing a split. -/

namespace Sys2Proof.Machine

theorem AsideExtents.of_eq {s t : State} (h : t.et = s.et) : AsideExtents s t := by
  have he : t.extent = s.extent := State.extent_congr (by rw [h])
  exact ⟨fun n r hr _ => he ▸ hr, fun n hr => he ▸ hr, by rw [h], by rw [h], by rw [h]⟩

theorem AsideExtents.trans {s t u : State} (a : AsideExtents s t) (b : AsideExtents t u) : AsideExtents s u :=
  ⟨fun n r h hr => b.extents n r (a.extents n r h hr) hr, fun n h => b.absent n (a.absent n h),
    b.numbers.trans a.numbers, b.next.trans a.next, b.keys.trans a.keys⟩

theorem AsideSlots.of_eq {s t : State} (ha : t.linkA = s.linkA) (hb : t.linkB = s.linkB) (hc : t.cport = s.cport)
    (hm : t.storeMap.split = s.storeMap.split ∨ t.storeMap.split = none) : AsideSlots s t := by
  have he : t.slot = s.slot := State.slot_congr ha hb hc
  have hl : t.slots = s.slots := State.slots_congr ha hb hc
  exact ⟨fun ref v h _ => he ▸ h, fun n i v hs _ => he ▸ hs, fun i v hs _ _ => he ▸ hs, fun m => by rw [hl], hm,
    fun n => ⟨(s.link n).slots, by cases n <;> simp [State.link, ha, hb]⟩, ⟨s.cport.slots, by rw [hc]⟩⟩

theorem AsideSlots.trans {s t u : State} (a : AsideSlots s t) (b : AsideSlots t u) : AsideSlots s u where
  settled ref v h hv := b.settled ref v (a.settled ref v h hv) hv
  nodeSlots n i v hs hw := b.nodeSlots n i v (a.nodeSlots n i v hs hw) hw
  portSlots i v hs hw hp := by
    refine b.portSlots i v (a.portSlots i v hs hw hp) hw ?_
    intro p hp'
    rcases a.split with e | e
    · exact hp p (e ▸ hp')
    · rw [e] at hp'; cases hp'
  slotCount m := (b.slotCount m).trans (a.slotCount m)
  split := by
    rcases b.split with e | e
    · rw [e]; exact a.split
    · exact .inr e
  links n := by
    obtain ⟨l, hl⟩ := a.links n
    obtain ⟨k, hk⟩ := b.links n
    exact ⟨k, by rw [hk, hl]⟩
  cport := by
    obtain ⟨l, hl⟩ := a.cport
    obtain ⟨k, hk⟩ := b.cport
    exact ⟨k, by rw [hk, hl]⟩

theorem AsideRest.of_eq {s t : State} (hj : t.journal = s.journal) (hr : t.router = s.router)
    (hm : t.storeMap.stores.map (·.openExtent) = s.storeMap.stores.map (·.openExtent)) : AsideRest s t := by
  have he : t.pendingSet = s.pendingSet := State.pendingSet_congr hr
  exact ⟨⟨s.journal.pageList, s.journal.waits, by rw [hj]⟩, fun m c h => he ▸ h, by rw [hr], hm⟩

theorem AsideRest.trans {s t u : State} (a : AsideRest s t) (b : AsideRest t u) : AsideRest s u where
  journal := by
    obtain ⟨l, w, hl⟩ := a.journal
    obtain ⟨k, v, hk⟩ := b.journal
    exact ⟨k, v, by rw [hk, hl]⟩
  events m c h := b.events m c (a.events m c h)
  routes := b.routes.trans a.routes
  openExtents := b.openExtents.trans a.openExtents

theorem Aside.trans {s t u : State} (a : Aside s t) (b : Aside t u) : Aside s u :=
  ⟨a.et.trans b.et, a.slots.trans b.slots, a.rest.trans b.rest⟩

theorem Aside.refl (s : State) : Aside s s :=
  ⟨.of_eq rfl, .of_eq rfl rfl rfl (.inl rfl), .of_eq rfl rfl rfl⟩

theorem Aside.media (s : State) (m : Media) : Aside s (s.withMedia m) :=
  ⟨.of_eq (by simp), .of_eq (by simp) (by simp) (by simp) (by simp), .of_eq (by simp) (by simp) (by simp)⟩

theorem Aside.engine (s : State) (e : Engine) : Aside s (s.withEngine e) :=
  ⟨.of_eq (by simp), .of_eq (by simp) (by simp) (by simp) (by simp), .of_eq (by simp) (by simp) (by simp)⟩

theorem Aside.setStage (s : State) (g : Stage) : Aside s (s.setStage g) := Aside.engine s _

theorem Aside.fly (s : State) (op : MediaOp) : Aside s (s.fly op) := Aside.media s _

/-- A change of the page list and the waiting requests alone. -/
theorem Aside.ofJournal (s : State) (l : List PageEntry) (w : List PlaceRequest) :
    Aside s (s.withJournal { s.journal with pageList := l, waits := w }) where
  et := .of_eq (by simp)
  slots := .of_eq (by simp) (by simp) (by simp) (by simp)
  rest := by
    have he := State.pendingSet_congr (s := s) (t := s.withJournal { s.journal with pageList := l, waits := w })
      (by simp)
    exact ⟨⟨l, w, rfl⟩, fun m c h => he ▸ h, by simp, by simp⟩

theorem Aside.dropWait (s : State) (r : PlaceRequest) : Aside s (s.dropWait r) :=
  Aside.ofJournal s s.journal.pageList _

theorem Aside.raise (s : State) (c : EventClass) (f : Option Master) : Aside s (s.raise c f) :=
  ⟨.of_eq (by simp), .of_eq (by simp) (by simp) (by simp) (by simp),
    ⟨s.journal.pageList, s.journal.waits, by simp⟩, fun _ _ h => s.mem_raise c f h, by simp, by simp⟩

theorem Aside.raiseAt (s : State) (m : Master) (c : EventClass) : Aside s (s.raiseAt m c) :=
  ⟨.of_eq (by simp), .of_eq (by simp) (by simp) (by simp) (by simp),
    ⟨s.journal.pageList, s.journal.waits, by simp⟩, fun _ _ h => s.mem_raiseAt m c h, by simp, by simp⟩

/-- A change of the store map that keeps the stores' open extents and the split, or drops it. -/
theorem Aside.ofStores (s : State) (m : StoreMap)
    (hn : m.stores.map (·.openExtent) = s.storeMap.stores.map (·.openExtent))
    (hs : m.split = s.storeMap.split ∨ m.split = none) : Aside s (s.withStoreMap m) :=
  ⟨.of_eq (by simp), .of_eq (by simp) (by simp) (by simp) (by simpa using hs),
    .of_eq (by simp) (by simp) (by simpa using hn)⟩

theorem map_modify_openExtent (l : List Store) (i : Nat) (f : Store → Store)
    (hf : ∀ st, (f st).openExtent = st.openExtent) : (l.modify i f).map (·.openExtent) = l.map (·.openExtent) := by
  induction l generalizing i with
  | nil => simp
  | cons a l ih => cases i <;> simp [hf, ih]

theorem Aside.modStore (s : State) (i : Nat) {f : Store → Store} (hf : ∀ st, (f st).openExtent = st.openExtent) :
    Aside s (s.modStore i f) := Aside.ofStores s _ (map_modify_openExtent _ _ _ hf) (.inl rfl)

/-- A change of one record that is made to DISPOSING records alone. -/
theorem Aside.modExtent (s : State) (k : Nat) {f : Extent → Extent} (hn : ∀ r, (f r).number = r.number)
    (hf : ∀ r, r.state ≠ .disposing → f r = r) : Aside s (s.modExtent k f) where
  et := {
    extents := fun n r h hr => by
      rw [State.extent_modExtent s k hn, h]
      simp only [Option.map_some, hf r hr, ite_self]
    absent := fun n h => by rw [State.extent_modExtent s k hn, h]; rfl
    numbers := State.numbers_modExtent s k hn
    next := by simp
    keys := by simp }
  slots := .of_eq (by simp) (by simp) (by simp) (by simp)
  rest := .of_eq (by simp) (by simp) (by simp)

/-- One slot is replaced by another: allowed of a RUNNING DISPOSE, or of a CPORT slot of the pending split that is
neither FREE nor FINISHED. `u` is a state on the way. -/
theorem AsideSlots.setSlot {s u : State} {ref : SlotRef} {x : Slot} (v : Slot) (a : AsideSlots s u)
    (hu : u.slot = s.slot) (hs : s.slot ref = some x)
    (hw : x.steady = false ∨ x.settled = false ∧ ∃ p, s.storeMap.split = some p ∧ ref = ⟨.cport, p.slot⟩) :
    AsideSlots s (u.setSlot ref v) where
  settled r y hy hv := by
    rw [State.slot_setSlot, hu]
    by_cases he : r = ref
    · subst he
      rw [hs] at hy
      cases hy
      rcases hw with e | ⟨e, -⟩
      · cases x <;> simp_all [Slot.settled, Slot.steady]
      · rw [e] at hv; cases hv
    · simpa [he] using hy
  nodeSlots n i y hy hv := by
    rw [State.slot_setSlot, hu]
    by_cases he : (⟨.node n, i⟩ : SlotRef) = ref
    · subst he
      rw [hs] at hy
      cases hy
      rcases hw with e | ⟨-, p, -, e⟩
      · rw [e] at hv; cases hv
      · cases e
    · simpa [he] using hy
  portSlots i y hy hv hp := by
    rw [State.slot_setSlot, hu]
    by_cases he : (⟨.cport, i⟩ : SlotRef) = ref
    · subst he
      rw [hs] at hy
      cases hy
      rcases hw with e | ⟨-, p, e, e'⟩
      · rw [e] at hv; cases hv
      · cases e'; exact absurd rfl (hp p e)
    · simpa [he] using hy
  slotCount m := by
    rw [State.slots_setSlot]
    split
    · simpa using a.slotCount m
    · exact a.slotCount m
  split := by simpa using a.split
  links n := by
    obtain ⟨l, hl⟩ := State.link_setSlot u ref v n
    obtain ⟨k, hk⟩ := a.links n
    exact ⟨l, by rw [hl, hk]⟩
  cport := by
    obtain ⟨l, hl⟩ := State.cport_setSlot u ref v
    obtain ⟨k, hk⟩ := a.cport
    exact ⟨l, by rw [hl, hk]⟩

/-- The end of a slot, under the same condition. -/
theorem AsideSlots.endSlot {s u : State} {ref : SlotRef} (r : Result) (a : AsideSlots s u) (hu : u.slot = s.slot)
    (hw : ∀ x, s.slot ref = some x → x.steady = false ∨ ∃ p, s.storeMap.split = some p ∧ ref = ⟨.cport, p.slot⟩) :
    AsideSlots s (u.endSlot ref r) := by
  unfold State.endSlot
  split
  · next h w heq =>
    rw [hu] at heq
    have b := a.setSlot (.finished h r) hu heq ((hw _ heq).imp id (fun e => ⟨rfl, e⟩))
    exact b.trans (Aside.raiseAt _ _ _).slots
  · next w heq =>
    rw [hu] at heq
    exact a.setSlot .free hu heq ((hw _ heq).imp id (fun e => ⟨rfl, e⟩))
  · exact a

theorem AsideExtents.endSlot {s u : State} (ref : SlotRef) (r : Result) (a : AsideExtents s u) :
    AsideExtents s (u.endSlot ref r) := a.trans (.of_eq (by simp))

theorem AsideRest.endSlot {s u : State} (ref : SlotRef) (r : Result) (a : AsideRest s u) :
    AsideRest s (u.endSlot ref r) :=
  a.trans ⟨⟨u.journal.pageList, u.journal.waits, by simp⟩, fun _ _ h => u.mem_endSlot ref r h, by simp, by simp⟩

/-! ### The operations -/

/-- Failing a split (R31, R33, R34). -/
theorem Aside.failSplit (s : State) (c : Code) : Aside s (s.failSplit c) := by
  unfold State.failSplit
  split
  · exact Aside.refl s
  · next p hp =>
    dsimp only
    have a := (Aside.ofStores s ⟨s.storeMap.regionBase, s.storeMap.regionSize,
      s.storeMap.stores.map (fun st => if st.isSplitting then { st with state := .active } else st), none⟩
      (by simp only [List.map_map]; apply List.map_congr_left; intro st _; simp only [Function.comp]; split <;> rfl)
      (.inr rfl)).trans (Aside.dropWait _ .splitDone)
    exact ⟨a.et.endSlot _ _,
      a.slots.endSlot _ (State.slot_congr (by simp) (by simp) (by simp)) (fun _ _ => .inr ⟨p, hp, rfl⟩),
      a.rest.endSlot _ _⟩

/-- Counting an exit touches DISPOSE slots alone (R148). -/
theorem Aside.countExit (s : State) (e : QueueEntry) (x : Exit) : Aside s (s.countExit e x) := by
  unfold State.countExit
  split
  · exact Aside.refl s
  · next ref href =>
    split
    · next h w heq =>
      dsimp only
      have a : Aside s (s.setSlot ref (.running h (.dispose (w.count x)))) :=
        ⟨.of_eq (by simp), (AsideSlots.of_eq rfl rfl rfl (.inl rfl)).setSlot _ rfl heq (.inl rfl),
          .of_eq (by simp) (by simp) (by simp)⟩
      split
      · refine a.trans ⟨(AsideExtents.of_eq rfl).endSlot _ _,
          (AsideSlots.of_eq rfl rfl rfl (.inl rfl)).endSlot _ rfl (fun y hy => .inl ?_),
          (AsideRest.of_eq rfl rfl rfl).endSlot _ _⟩
        rw [State.slot_setSlot_same s heq] at hy
        cases hy
        rfl
      · exact a
    · exact Aside.refl s

theorem Aside.leaveQueue (s : State) (e : QueueEntry) (x : Exit) : Aside s (s.leaveQueue e x) :=
  (Aside.engine s _).trans (Aside.countExit _ e x)

theorem Extent.returned_number (r : Extent) : r.returned.number = r.number := by
  unfold Extent.returned
  split <;> rfl

theorem Aside.returnEntry (s : State) (e : QueueEntry) : Aside s (s.returnEntry e) := by
  unfold State.returnEntry
  split
  · exact (Aside.modExtent s e.ext Extent.returned_number
      (fun r h => by simp [Extent.returned, Extent.returnable, h])).trans (Aside.leaveQueue _ e _)
  · exact Aside.refl s

theorem Aside.foldReturn (l : List QueueEntry) (s : State) : Aside s (l.foldl State.returnEntry s) := by
  induction l generalizing s with
  | nil => exact Aside.refl s
  | cons e l ih => exact (Aside.returnEntry s e).trans (ih _)

theorem Aside.returnHead (s : State) : Aside s s.returnHead := by
  unfold State.returnHead
  split
  · exact Aside.refl s
  · exact (Aside.returnEntry s _).trans (Aside.setStage _ _)

theorem Aside.returnQueue (s : State) : Aside s s.returnQueue := by
  unfold State.returnQueue
  split
  · exact Aside.foldReturn _ s
  · exact Aside.foldReturn _ s
  · exact ((Aside.media s _).trans (Aside.foldReturn _ _)).trans (Aside.setStage _ _)

theorem Aside.exhaust (s : State) : Aside s s.exhaust := (Aside.failSplit s _).trans (Aside.returnQueue _)

theorem Aside.ofFull (s t : State) (i : Nat) (h : Aside s t) :
    Aside s ((t.modStore i (fun x => { x with state := .full })).raise .storeFull none) :=
  (h.trans (Aside.modStore t i (f := fun x => { x with state := .full }) (fun _ => rfl))).trans (Aside.raise _ _ _)

theorem Aside.judgeStore (s : State) (i : Nat) : Aside s (s.judgeStore i) := by
  unfold State.judgeStore
  cases s.store i with
  | none => exact Aside.refl s
  | some st =>
    cases h : st.isSplitting && decide (st.limit < st.frontier + Config.splitFloor) with
    | false =>
      simp only [h, Bool.false_eq_true, if_false]
      split
      · exact Aside.ofFull s s i (Aside.refl s)
      · exact Aside.refl s
    | true =>
      simp only [h, if_true]
      split
      · exact Aside.ofFull s _ i (Aside.failSplit s _)
      · exact Aside.failSplit s _

theorem Aside.issueProgram (s : State) (op : MediaOp) (i : Nat) (b : Bool) : Aside s (s.issueProgram op i b) := by
  unfold State.issueProgram
  cases s.store i with
  | none => exact Aside.refl s
  | some st =>
    dsimp only
    split
    · exact Aside.refl s
    exact ((Aside.fly s { op with first := st.frontier }).trans
      (Aside.modStore (s.fly { op with first := st.frontier }) i
        (f := fun x => { x with
          frontier := x.frontier + op.count, reservation := if b then 0 else x.reservation })
        (fun _ => rfl))).trans (Aside.judgeStore _ i)

theorem Extent.scrubIssued_number (r : Extent) : r.scrubIssued.number = r.number := by
  unfold Extent.scrubIssued
  split <;> rfl

theorem Aside.issueScrub (s : State) (op : MediaOp) (n : Nat) : Aside s (s.issueScrub op n) := by
  unfold State.issueScrub
  split
  · exact ((Aside.fly s _).trans (Aside.modExtent _ n Extent.scrubIssued_number
      (fun r h => by simp [Extent.scrubIssued, h]))).trans (Aside.setStage _ _)
  · exact Aside.returnHead s

theorem Aside.issuePage (s : State) (op : MediaOp) : Aside s (s.issuePage op) := by
  unfold State.issuePage
  dsimp only
  have a : Aside s ((s.fly op).withJournal { s.journal with
      pageList := s.journal.pageList ++ [.issued s.journal.flushed (min Config.pageRecords s.journal.buffered)] }) :=
    (Aside.fly s op).trans (by simpa using Aside.ofJournal (s.fly op) _ s.journal.waits)
  split
  · split
    · exact (a.trans (Aside.raise _ _ _)).trans (Aside.exhaust _)
    · exact a.trans (Aside.exhaust _)
  · split
    · exact a.trans (Aside.raise _ _ _)
    · exact a

theorem Aside.issue (s : State) (op : MediaOp) : Aside s (s.issue op) := by
  unfold State.issue
  split
  · exact Aside.issueProgram _ _ _ _
  · exact Aside.issueProgram _ _ _ _
  · exact Aside.fly _ _
  · exact Aside.fly _ _
  · exact Aside.fly _ _
  · exact Aside.issueScrub _ _ _
  · exact Aside.issuePage _ _

/-- A grant does nothing but what `Aside` says (R79 to R85). -/
theorem Aside.grant (s : State) : Aside s s.grant := by
  unfold State.grant
  split
  · exact Aside.refl s
  · exact (Aside.media s _).trans (Aside.issue _ _)

theorem Aside.place (s : State) (op : MediaOp) : Aside s (s.place op) := by
  unfold State.place
  dsimp only
  split
  · exact (Aside.media s _).trans (Aside.grant _)
  · exact Aside.media s _

theorem Aside.complete (s : State) : Aside s s.complete := (Aside.media s _).trans (Aside.grant _)

theorem Aside.judgePage (s : State) : Aside s s.judgePage := by
  unfold State.judgePage
  split
  · exact Aside.place _ _
  · exact Aside.refl s

end Sys2Proof.Machine
end

