-- ==== Sys2Proof/Laws/FamilyFrames.lean ====
section
/-! SUPPORT. Frames: for each shared operation, the fields of State it never changes, as simp lemmas. The operations of the families. -/

namespace Sys2Proof.Machine

/-- What `State.evict` never changes. -/
@[simp] theorem State.evict_frame (s : State) (t : Extent) :
    (s.evict t).phase = s.phase ∧
      (s.evict t).startup = s.startup ∧
      (s.evict t).marker = s.marker ∧
      (s.evict t).settings = s.settings ∧
      (s.evict t).linkA = s.linkA ∧
      (s.evict t).linkB = s.linkB ∧
      (s.evict t).cport = s.cport ∧
      (s.evict t).readers = s.readers ∧
      (s.evict t).storeMap = s.storeMap ∧
      (s.evict t).write = s.write ∧
      (s.evict t).media = s.media ∧
      (s.evict t).clock = s.clock ∧
      (s.evict t).classes = s.classes ∧
      (s.evict t).holds = s.holds ∧
      (s.evict t).engine = s.engine ∧
      (s.evict t).journal = s.journal ∧
      (s.evict t).router = s.router ∧
      (s.evict t).freeCount = s.freeCount ∧
      (s.evict t).pending = s.pending := by simp [State.evict]

/-- What `State.create` never changes. -/
@[simp] theorem State.create_frame (s : State) (o : Node) (a b c d e : Nat) :
    (s.create o a b c d e).phase = s.phase ∧
      (s.create o a b c d e).startup = s.startup ∧
      (s.create o a b c d e).marker = s.marker ∧
      (s.create o a b c d e).settings = s.settings ∧
      (s.create o a b c d e).linkA = s.linkA ∧
      (s.create o a b c d e).linkB = s.linkB ∧
      (s.create o a b c d e).cport = s.cport ∧
      (s.create o a b c d e).readers = s.readers ∧
      (s.create o a b c d e).media = s.media ∧
      (s.create o a b c d e).clock = s.clock ∧
      (s.create o a b c d e).classes = s.classes ∧
      (s.create o a b c d e).holds = s.holds ∧
      (s.create o a b c d e).engine = s.engine ∧
      (s.create o a b c d e).journal = s.journal ∧
      (s.create o a b c d e).router = s.router ∧
      (s.create o a b c d e).freeCount = s.freeCount ∧
      (s.create o a b c d e).pending = s.pending := by simp [State.create]

/-- What `State.takeStore` never changes. -/
@[simp] theorem State.takeStore_frame (s : State) (i : Nat) (g : Staging) :
    (s.takeStore i g).phase = s.phase ∧
      (s.takeStore i g).startup = s.startup ∧
      (s.takeStore i g).marker = s.marker ∧
      (s.takeStore i g).settings = s.settings ∧
      (s.takeStore i g).linkA = s.linkA ∧
      (s.takeStore i g).linkB = s.linkB ∧
      (s.takeStore i g).cport = s.cport ∧
      (s.takeStore i g).et = s.et ∧
      (s.takeStore i g).readers = s.readers ∧
      (s.takeStore i g).storeMap = s.storeMap ∧
      (s.takeStore i g).media = s.media ∧
      (s.takeStore i g).clock = s.clock ∧
      (s.takeStore i g).classes = s.classes ∧
      (s.takeStore i g).holds = s.holds ∧
      (s.takeStore i g).engine = s.engine ∧
      (s.takeStore i g).router = s.router ∧
      (s.takeStore i g).freeCount = s.freeCount ∧
      (s.takeStore i g).pending = s.pending := by simp [State.takeStore]

/-- What `State.beginAppend` never changes. -/
@[simp] theorem State.beginAppend_frame (s : State) (r : Extent) (b : Nat) :
    (s.beginAppend r b).phase = s.phase ∧
      (s.beginAppend r b).startup = s.startup ∧
      (s.beginAppend r b).marker = s.marker ∧
      (s.beginAppend r b).settings = s.settings ∧
      (s.beginAppend r b).linkA = s.linkA ∧
      (s.beginAppend r b).linkB = s.linkB ∧
      (s.beginAppend r b).cport = s.cport ∧
      (s.beginAppend r b).readers = s.readers ∧
      (s.beginAppend r b).media = s.media ∧
      (s.beginAppend r b).clock = s.clock ∧
      (s.beginAppend r b).classes = s.classes ∧
      (s.beginAppend r b).holds = s.holds ∧
      (s.beginAppend r b).engine = s.engine ∧
      (s.beginAppend r b).router = s.router ∧
      (s.beginAppend r b).freeCount = s.freeCount ∧
      (s.beginAppend r b).pending = s.pending := by simp [State.beginAppend]

/-- What `State.failFetch` never changes. -/
@[simp] theorem State.failFetch_frame (s : State) (n : Nat) :
    (s.failFetch n).phase = s.phase ∧
      (s.failFetch n).startup = s.startup ∧
      (s.failFetch n).marker = s.marker ∧
      (s.failFetch n).settings = s.settings ∧
      (s.failFetch n).linkA = s.linkA ∧
      (s.failFetch n).linkB = s.linkB ∧
      (s.failFetch n).cport = s.cport ∧
      (s.failFetch n).readers = s.readers ∧
      (s.failFetch n).media = s.media ∧
      (s.failFetch n).clock = s.clock ∧
      (s.failFetch n).classes = s.classes ∧
      (s.failFetch n).holds = s.holds ∧
      (s.failFetch n).engine = s.engine ∧
      (s.failFetch n).journal = s.journal ∧
      (s.failFetch n).router = s.router ∧
      (s.failFetch n).freeCount = s.freeCount ∧
      (s.failFetch n).pending = s.pending := by
  unfold State.failFetch
  repeat' split
  all_goals simp

/-- What `State.fetchFault` never changes. -/
@[simp] theorem State.fetchFault_frame (s : State) (ref : SlotRef) (n : Nat) :
    (s.fetchFault ref n).phase = s.phase ∧
      (s.fetchFault ref n).startup = s.startup ∧
      (s.fetchFault ref n).marker = s.marker ∧
      (s.fetchFault ref n).settings = s.settings ∧
      (s.fetchFault ref n).readers = s.readers ∧
      (s.fetchFault ref n).media = s.media ∧
      (s.fetchFault ref n).clock = s.clock ∧
      (s.fetchFault ref n).classes = s.classes ∧
      (s.fetchFault ref n).holds = s.holds ∧
      (s.fetchFault ref n).engine = s.engine ∧
      (s.fetchFault ref n).journal = s.journal ∧
      (s.fetchFault ref n).freeCount = s.freeCount ∧
      (s.fetchFault ref n).pending = s.pending := by simp [State.fetchFault]

/-- What `State.fetched` never changes. -/
@[simp] theorem State.fetched_frame (s : State) (ref : SlotRef) (h : Held) (w : AppendWork) (d : List Byte) :
    (s.fetched ref h w d).phase = s.phase ∧
      (s.fetched ref h w d).startup = s.startup ∧
      (s.fetched ref h w d).marker = s.marker ∧
      (s.fetched ref h w d).settings = s.settings ∧
      (s.fetched ref h w d).readers = s.readers ∧
      (s.fetched ref h w d).clock = s.clock ∧
      (s.fetched ref h w d).classes = s.classes ∧
      (s.fetched ref h w d).holds = s.holds ∧
      (s.fetched ref h w d).freeCount = s.freeCount ∧
      (s.fetched ref h w d).pending = s.pending := by
  unfold State.fetched
  try dsimp only
  repeat' split
  all_goals simp

/-- What `State.appendDone` never changes. -/
@[simp] theorem State.appendDone_frame (s : State) (i b : Nat) :
    (s.appendDone i b).phase = s.phase ∧
      (s.appendDone i b).startup = s.startup ∧
      (s.appendDone i b).marker = s.marker ∧
      (s.appendDone i b).settings = s.settings ∧
      (s.appendDone i b).readers = s.readers ∧
      (s.appendDone i b).storeMap = s.storeMap ∧
      (s.appendDone i b).media = s.media ∧
      (s.appendDone i b).clock = s.clock ∧
      (s.appendDone i b).classes = s.classes ∧
      (s.appendDone i b).holds = s.holds ∧
      (s.appendDone i b).engine = s.engine ∧
      (s.appendDone i b).journal = s.journal ∧
      (s.appendDone i b).freeCount = s.freeCount ∧
      (s.appendDone i b).pending = s.pending := by
  unfold State.appendDone
  repeat' split
  all_goals simp

/-- What `State.beginClose` never changes. -/
@[simp] theorem State.beginClose_frame (s : State) (r : Extent) :
    (s.beginClose r).phase = s.phase ∧
      (s.beginClose r).startup = s.startup ∧
      (s.beginClose r).marker = s.marker ∧
      (s.beginClose r).settings = s.settings ∧
      (s.beginClose r).readers = s.readers ∧
      (s.beginClose r).clock = s.clock ∧
      (s.beginClose r).classes = s.classes ∧
      (s.beginClose r).holds = s.holds ∧
      (s.beginClose r).freeCount = s.freeCount ∧
      (s.beginClose r).pending = s.pending := by simp [State.beginClose]

/-- What `State.trailerDone` never changes. -/
@[simp] theorem State.trailerDone_frame (s : State) (i : Nat) :
    (s.trailerDone i).phase = s.phase ∧
      (s.trailerDone i).startup = s.startup ∧
      (s.trailerDone i).marker = s.marker ∧
      (s.trailerDone i).settings = s.settings ∧
      (s.trailerDone i).readers = s.readers ∧
      (s.trailerDone i).clock = s.clock ∧
      (s.trailerDone i).classes = s.classes ∧
      (s.trailerDone i).holds = s.holds ∧
      (s.trailerDone i).freeCount = s.freeCount ∧
      (s.trailerDone i).pending = s.pending := by
  unfold State.trailerDone
  try dsimp only
  repeat' split
  all_goals simp

/-- What `State.latchDma` never changes. -/
@[simp] theorem State.latchDma_frame (s : State) (n : Node) (c : List Host.Cell) :
    (s.latchDma n c).phase = s.phase ∧
      (s.latchDma n c).startup = s.startup ∧
      (s.latchDma n c).marker = s.marker ∧
      (s.latchDma n c).settings = s.settings ∧
      (s.latchDma n c).cport = s.cport ∧
      (s.latchDma n c).et = s.et ∧
      (s.latchDma n c).readers = s.readers ∧
      (s.latchDma n c).storeMap = s.storeMap ∧
      (s.latchDma n c).write = s.write ∧
      (s.latchDma n c).media = s.media ∧
      (s.latchDma n c).clock = s.clock ∧
      (s.latchDma n c).classes = s.classes ∧
      (s.latchDma n c).holds = s.holds ∧
      (s.latchDma n c).engine = s.engine ∧
      (s.latchDma n c).journal = s.journal ∧
      (s.latchDma n c).router = s.router ∧
      (s.latchDma n c).freeCount = s.freeCount ∧
      (s.latchDma n c).pending = s.pending := by simp [State.latchDma]

/-- What `State.readFetched` never changes. -/
@[simp] theorem State.readFetched_frame (s : State) (ref : SlotRef) (d : List Byte) :
    (s.readFetched ref d).phase = s.phase ∧
      (s.readFetched ref d).startup = s.startup ∧
      (s.readFetched ref d).marker = s.marker ∧
      (s.readFetched ref d).settings = s.settings ∧
      (s.readFetched ref d).et = s.et ∧
      (s.readFetched ref d).storeMap = s.storeMap ∧
      (s.readFetched ref d).write = s.write ∧
      (s.readFetched ref d).media = s.media ∧
      (s.readFetched ref d).clock = s.clock ∧
      (s.readFetched ref d).classes = s.classes ∧
      (s.readFetched ref d).holds = s.holds ∧
      (s.readFetched ref d).engine = s.engine ∧
      (s.readFetched ref d).journal = s.journal ∧
      (s.readFetched ref d).router = s.router ∧
      (s.readFetched ref d).freeCount = s.freeCount ∧
      (s.readFetched ref d).pending = s.pending := by
  unfold State.readFetched
  repeat' split
  all_goals simp

/-- What `State.readFault` never changes. -/
@[simp] theorem State.readFault_frame (s : State) (ref : SlotRef) :
    (s.readFault ref).phase = s.phase ∧
      (s.readFault ref).startup = s.startup ∧
      (s.readFault ref).marker = s.marker ∧
      (s.readFault ref).settings = s.settings ∧
      (s.readFault ref).et = s.et ∧
      (s.readFault ref).storeMap = s.storeMap ∧
      (s.readFault ref).write = s.write ∧
      (s.readFault ref).media = s.media ∧
      (s.readFault ref).clock = s.clock ∧
      (s.readFault ref).classes = s.classes ∧
      (s.readFault ref).holds = s.holds ∧
      (s.readFault ref).engine = s.engine ∧
      (s.readFault ref).journal = s.journal ∧
      (s.readFault ref).freeCount = s.freeCount ∧
      (s.readFault ref).pending = s.pending := by
  unfold State.readFault
  repeat' split
  all_goals simp

/-- What `State.readDmaFault` never changes. -/
@[simp] theorem State.readDmaFault_frame (s : State) (n : Node) (i : Nat) (w : ReadWork) (p : Nat) :
    (s.readDmaFault n i w p).phase = s.phase ∧
      (s.readDmaFault n i w p).startup = s.startup ∧
      (s.readDmaFault n i w p).marker = s.marker ∧
      (s.readDmaFault n i w p).settings = s.settings ∧
      (s.readDmaFault n i w p).et = s.et ∧
      (s.readDmaFault n i w p).storeMap = s.storeMap ∧
      (s.readDmaFault n i w p).write = s.write ∧
      (s.readDmaFault n i w p).media = s.media ∧
      (s.readDmaFault n i w p).clock = s.clock ∧
      (s.readDmaFault n i w p).classes = s.classes ∧
      (s.readDmaFault n i w p).holds = s.holds ∧
      (s.readDmaFault n i w p).engine = s.engine ∧
      (s.readDmaFault n i w p).journal = s.journal ∧
      (s.readDmaFault n i w p).freeCount = s.freeCount ∧
      (s.readDmaFault n i w p).pending = s.pending := by simp [State.readDmaFault]

/-- What `State.setVerify` never changes. -/
@[simp] theorem State.setVerify_frame (s : State) (ref : SlotRef) (w : VerifyWork) :
    (s.setVerify ref w).phase = s.phase ∧
      (s.setVerify ref w).startup = s.startup ∧
      (s.setVerify ref w).marker = s.marker ∧
      (s.setVerify ref w).settings = s.settings ∧
      (s.setVerify ref w).et = s.et ∧
      (s.setVerify ref w).readers = s.readers ∧
      (s.setVerify ref w).storeMap = s.storeMap ∧
      (s.setVerify ref w).write = s.write ∧
      (s.setVerify ref w).media = s.media ∧
      (s.setVerify ref w).clock = s.clock ∧
      (s.setVerify ref w).classes = s.classes ∧
      (s.setVerify ref w).holds = s.holds ∧
      (s.setVerify ref w).engine = s.engine ∧
      (s.setVerify ref w).journal = s.journal ∧
      (s.setVerify ref w).router = s.router ∧
      (s.setVerify ref w).freeCount = s.freeCount ∧
      (s.setVerify ref w).pending = s.pending := by
  unfold State.setVerify
  repeat' split
  all_goals simp

/-- What `State.damaged` never changes. -/
@[simp] theorem State.damaged_frame (s : State) (ref : SlotRef) (w : VerifyWork) (d : Damage) :
    (s.damaged ref w d).marker = s.marker ∧
      (s.damaged ref w d).settings = s.settings ∧
      (s.damaged ref w d).clock = s.clock ∧
      (s.damaged ref w d).classes = s.classes ∧
      (s.damaged ref w d).holds = s.holds ∧
      (s.damaged ref w d).freeCount = s.freeCount ∧
      (s.damaged ref w d).pending = s.pending := by simp [State.damaged]

/-- What `State.verifyMatch` never changes. -/
@[simp] theorem State.verifyMatch_frame (s : State) (ref : SlotRef) (w : VerifyWork) (c : Word32) :
    (s.verifyMatch ref w c).phase = s.phase ∧
      (s.verifyMatch ref w c).startup = s.startup ∧
      (s.verifyMatch ref w c).marker = s.marker ∧
      (s.verifyMatch ref w c).settings = s.settings ∧
      (s.verifyMatch ref w c).storeMap = s.storeMap ∧
      (s.verifyMatch ref w c).write = s.write ∧
      (s.verifyMatch ref w c).media = s.media ∧
      (s.verifyMatch ref w c).clock = s.clock ∧
      (s.verifyMatch ref w c).classes = s.classes ∧
      (s.verifyMatch ref w c).holds = s.holds ∧
      (s.verifyMatch ref w c).engine = s.engine ∧
      (s.verifyMatch ref w c).journal = s.journal ∧
      (s.verifyMatch ref w c).freeCount = s.freeCount ∧
      (s.verifyMatch ref w c).pending = s.pending := by simp [State.verifyMatch]

/-- What `State.verifyFetched` never changes. -/
@[simp] theorem State.verifyFetched_frame (s : State) (ref : SlotRef) (b : Nat) (d : List Byte) :
    (s.verifyFetched ref b d).marker = s.marker ∧
      (s.verifyFetched ref b d).settings = s.settings ∧
      (s.verifyFetched ref b d).clock = s.clock ∧
      (s.verifyFetched ref b d).classes = s.classes ∧
      (s.verifyFetched ref b d).holds = s.holds ∧
      (s.verifyFetched ref b d).freeCount = s.freeCount ∧
      (s.verifyFetched ref b d).pending = s.pending := by
  unfold State.verifyFetched
  try dsimp only
  repeat' split
  all_goals simp

/-- What `State.verifyFault` never changes. -/
@[simp] theorem State.verifyFault_frame (s : State) (ref : SlotRef) (b : Nat) :
    (s.verifyFault ref b).marker = s.marker ∧
      (s.verifyFault ref b).settings = s.settings ∧
      (s.verifyFault ref b).clock = s.clock ∧
      (s.verifyFault ref b).classes = s.classes ∧
      (s.verifyFault ref b).holds = s.holds ∧
      (s.verifyFault ref b).freeCount = s.freeCount ∧
      (s.verifyFault ref b).pending = s.pending := by
  unfold State.verifyFault
  try dsimp only
  repeat' split
  all_goals simp

/-- What `State.withdrawRead` never changes. -/
@[simp] theorem State.withdrawRead_frame (s : State) (ref : SlotRef) :
    (s.withdrawRead ref).phase = s.phase ∧
      (s.withdrawRead ref).startup = s.startup ∧
      (s.withdrawRead ref).marker = s.marker ∧
      (s.withdrawRead ref).settings = s.settings ∧
      (s.withdrawRead ref).linkA = s.linkA ∧
      (s.withdrawRead ref).linkB = s.linkB ∧
      (s.withdrawRead ref).cport = s.cport ∧
      (s.withdrawRead ref).et = s.et ∧
      (s.withdrawRead ref).readers = s.readers ∧
      (s.withdrawRead ref).storeMap = s.storeMap ∧
      (s.withdrawRead ref).write = s.write ∧
      (s.withdrawRead ref).clock = s.clock ∧
      (s.withdrawRead ref).classes = s.classes ∧
      (s.withdrawRead ref).holds = s.holds ∧
      (s.withdrawRead ref).engine = s.engine ∧
      (s.withdrawRead ref).journal = s.journal ∧
      (s.withdrawRead ref).router = s.router ∧
      (s.withdrawRead ref).freeCount = s.freeCount ∧
      (s.withdrawRead ref).pending = s.pending := by simp [State.withdrawRead]

/-- What `State.resetSlot` never changes. -/
@[simp] theorem State.resetSlot_frame (s : State) (ref : SlotRef) :
    (s.resetSlot ref).phase = s.phase ∧
      (s.resetSlot ref).startup = s.startup ∧
      (s.resetSlot ref).marker = s.marker ∧
      (s.resetSlot ref).settings = s.settings ∧
      (s.resetSlot ref).clock = s.clock ∧
      (s.resetSlot ref).classes = s.classes ∧
      (s.resetSlot ref).holds = s.holds ∧
      (s.resetSlot ref).engine = s.engine ∧
      (s.resetSlot ref).journal = s.journal ∧
      (s.resetSlot ref).router = s.router ∧
      (s.resetSlot ref).freeCount = s.freeCount ∧
      (s.resetSlot ref).pending = s.pending := by
  unfold State.resetSlot
  repeat' split
  all_goals simp

/-- What `State.clearSet` never changes. -/
@[simp] theorem State.clearSet_frame (s : State) (m : Master) :
    (s.clearSet m).phase = s.phase ∧
      (s.clearSet m).startup = s.startup ∧
      (s.clearSet m).marker = s.marker ∧
      (s.clearSet m).settings = s.settings ∧
      (s.clearSet m).linkA = s.linkA ∧
      (s.clearSet m).linkB = s.linkB ∧
      (s.clearSet m).cport = s.cport ∧
      (s.clearSet m).et = s.et ∧
      (s.clearSet m).readers = s.readers ∧
      (s.clearSet m).storeMap = s.storeMap ∧
      (s.clearSet m).write = s.write ∧
      (s.clearSet m).media = s.media ∧
      (s.clearSet m).clock = s.clock ∧
      (s.clearSet m).classes = s.classes ∧
      (s.clearSet m).holds = s.holds ∧
      (s.clearSet m).engine = s.engine ∧
      (s.clearSet m).journal = s.journal ∧
      (s.clearSet m).freeCount = s.freeCount ∧
      (s.clearSet m).pending = s.pending := by
  unfold State.clearSet
  repeat' split
  all_goals simp

/-- What `State.writeWindow` never changes. -/
@[simp] theorem State.writeWindow_frame (s : State) (n : Node) (o : Nat) (b : List Byte) :
    (s.writeWindow n o b).phase = s.phase ∧
      (s.writeWindow n o b).startup = s.startup ∧
      (s.writeWindow n o b).marker = s.marker ∧
      (s.writeWindow n o b).settings = s.settings ∧
      (s.writeWindow n o b).cport = s.cport ∧
      (s.writeWindow n o b).et = s.et ∧
      (s.writeWindow n o b).readers = s.readers ∧
      (s.writeWindow n o b).storeMap = s.storeMap ∧
      (s.writeWindow n o b).write = s.write ∧
      (s.writeWindow n o b).media = s.media ∧
      (s.writeWindow n o b).clock = s.clock ∧
      (s.writeWindow n o b).classes = s.classes ∧
      (s.writeWindow n o b).holds = s.holds ∧
      (s.writeWindow n o b).engine = s.engine ∧
      (s.writeWindow n o b).journal = s.journal ∧
      (s.writeWindow n o b).router = s.router ∧
      (s.writeWindow n o b).freeCount = s.freeCount ∧
      (s.writeWindow n o b).pending = s.pending := by simp [State.writeWindow]

/-- What `State.latchRead` never changes. -/
@[simp] theorem State.latchRead_frame (s : State) (b : List Byte) :
    (s.latchRead b).phase = s.phase ∧
      (s.latchRead b).startup = s.startup ∧
      (s.latchRead b).marker = s.marker ∧
      (s.latchRead b).settings = s.settings ∧
      (s.latchRead b).linkA = s.linkA ∧
      (s.latchRead b).linkB = s.linkB ∧
      (s.latchRead b).et = s.et ∧
      (s.latchRead b).readers = s.readers ∧
      (s.latchRead b).storeMap = s.storeMap ∧
      (s.latchRead b).write = s.write ∧
      (s.latchRead b).media = s.media ∧
      (s.latchRead b).clock = s.clock ∧
      (s.latchRead b).classes = s.classes ∧
      (s.latchRead b).holds = s.holds ∧
      (s.latchRead b).engine = s.engine ∧
      (s.latchRead b).journal = s.journal ∧
      (s.latchRead b).router = s.router ∧
      (s.latchRead b).freeCount = s.freeCount ∧
      (s.latchRead b).pending = s.pending := by simp [State.latchRead]

/-- What `State.readReceipt` never changes. -/
@[simp] theorem State.readReceipt_frame (s : State) (n : Nat) :
    (s.readReceipt n).phase = s.phase ∧
      (s.readReceipt n).startup = s.startup ∧
      (s.readReceipt n).marker = s.marker ∧
      (s.readReceipt n).settings = s.settings ∧
      (s.readReceipt n).linkA = s.linkA ∧
      (s.readReceipt n).linkB = s.linkB ∧
      (s.readReceipt n).et = s.et ∧
      (s.readReceipt n).readers = s.readers ∧
      (s.readReceipt n).storeMap = s.storeMap ∧
      (s.readReceipt n).write = s.write ∧
      (s.readReceipt n).media = s.media ∧
      (s.readReceipt n).clock = s.clock ∧
      (s.readReceipt n).classes = s.classes ∧
      (s.readReceipt n).holds = s.holds ∧
      (s.readReceipt n).engine = s.engine ∧
      (s.readReceipt n).journal = s.journal ∧
      (s.readReceipt n).router = s.router ∧
      (s.readReceipt n).freeCount = s.freeCount ∧
      (s.readReceipt n).pending = s.pending := by
  unfold State.readReceipt
  repeat' split
  all_goals simp

/-- What `State.tickClock` never changes. -/
@[simp] theorem State.tickClock_frame (s : State) :
    (s.tickClock).phase = s.phase ∧
      (s.tickClock).startup = s.startup ∧
      (s.tickClock).marker = s.marker ∧
      (s.tickClock).settings = s.settings ∧
      (s.tickClock).linkA = s.linkA ∧
      (s.tickClock).linkB = s.linkB ∧
      (s.tickClock).cport = s.cport ∧
      (s.tickClock).et = s.et ∧
      (s.tickClock).readers = s.readers ∧
      (s.tickClock).storeMap = s.storeMap ∧
      (s.tickClock).write = s.write ∧
      (s.tickClock).media = s.media ∧
      (s.tickClock).classes = s.classes ∧
      (s.tickClock).holds = s.holds ∧
      (s.tickClock).engine = s.engine ∧
      (s.tickClock).journal = s.journal ∧
      (s.tickClock).router = s.router ∧
      (s.tickClock).pending = s.pending := by simp [State.tickClock]

/-- What `State.judgeHoldover` never changes. -/
@[simp] theorem State.judgeHoldover_frame (s : State) :
    (s.judgeHoldover).phase = s.phase ∧
      (s.judgeHoldover).startup = s.startup ∧
      (s.judgeHoldover).marker = s.marker ∧
      (s.judgeHoldover).settings = s.settings ∧
      (s.judgeHoldover).readers = s.readers ∧
      (s.judgeHoldover).write = s.write ∧
      (s.judgeHoldover).classes = s.classes ∧
      (s.judgeHoldover).holds = s.holds ∧
      (s.judgeHoldover).freeCount = s.freeCount ∧
      (s.judgeHoldover).pending = s.pending := by
  unfold State.judgeHoldover
  try dsimp only
  repeat' split
  all_goals simp

/-- What `State.adopt` never changes. -/
@[simp] theorem State.adopt_frame (s : State) (o : Origin) (m : FarMark) (d : Int) :
    (s.adopt o m d).phase = s.phase ∧
      (s.adopt o m d).startup = s.startup ∧
      (s.adopt o m d).marker = s.marker ∧
      (s.adopt o m d).settings = s.settings ∧
      (s.adopt o m d).readers = s.readers ∧
      (s.adopt o m d).write = s.write ∧
      (s.adopt o m d).classes = s.classes ∧
      (s.adopt o m d).holds = s.holds ∧
      (s.adopt o m d).freeCount = s.freeCount ∧
      (s.adopt o m d).pending = s.pending := by simp [State.adopt]

/-- What `State.enqueue` never changes. -/
@[simp] theorem State.enqueue_frame (s : State) (e : QueueEntry) :
    (s.enqueue e).phase = s.phase ∧
      (s.enqueue e).startup = s.startup ∧
      (s.enqueue e).marker = s.marker ∧
      (s.enqueue e).settings = s.settings ∧
      (s.enqueue e).linkA = s.linkA ∧
      (s.enqueue e).linkB = s.linkB ∧
      (s.enqueue e).cport = s.cport ∧
      (s.enqueue e).readers = s.readers ∧
      (s.enqueue e).storeMap = s.storeMap ∧
      (s.enqueue e).write = s.write ∧
      (s.enqueue e).media = s.media ∧
      (s.enqueue e).clock = s.clock ∧
      (s.enqueue e).classes = s.classes ∧
      (s.enqueue e).holds = s.holds ∧
      (s.enqueue e).journal = s.journal ∧
      (s.enqueue e).router = s.router ∧
      (s.enqueue e).freeCount = s.freeCount ∧
      (s.enqueue e).pending = s.pending := by simp [State.enqueue]

/-- What `State.placeScrub` never changes. -/
@[simp] theorem State.placeScrub_frame (s : State) (n : Nat) :
    (s.placeScrub n).phase = s.phase ∧
      (s.placeScrub n).startup = s.startup ∧
      (s.placeScrub n).marker = s.marker ∧
      (s.placeScrub n).settings = s.settings ∧
      (s.placeScrub n).readers = s.readers ∧
      (s.placeScrub n).write = s.write ∧
      (s.placeScrub n).clock = s.clock ∧
      (s.placeScrub n).classes = s.classes ∧
      (s.placeScrub n).holds = s.holds ∧
      (s.placeScrub n).freeCount = s.freeCount ∧
      (s.placeScrub n).pending = s.pending := by
  unfold State.placeScrub
  repeat' split
  all_goals simp

/-- What `State.takeHead` never changes. -/
@[simp] theorem State.takeHead_frame (s : State) :
    (s.takeHead).phase = s.phase ∧
      (s.takeHead).startup = s.startup ∧
      (s.takeHead).marker = s.marker ∧
      (s.takeHead).settings = s.settings ∧
      (s.takeHead).readers = s.readers ∧
      (s.takeHead).write = s.write ∧
      (s.takeHead).clock = s.clock ∧
      (s.takeHead).classes = s.classes ∧
      (s.takeHead).holds = s.holds ∧
      (s.takeHead).freeCount = s.freeCount ∧
      (s.takeHead).pending = s.pending := by
  unfold State.takeHead
  try dsimp only
  repeat' split
  all_goals simp

/-- What `State.scrubFault` never changes. -/
@[simp] theorem State.scrubFault_frame (s : State) (n : Nat) :
    (s.scrubFault n).marker = s.marker ∧
      (s.scrubFault n).settings = s.settings ∧
      (s.scrubFault n).clock = s.clock ∧
      (s.scrubFault n).classes = s.classes ∧
      (s.scrubFault n).holds = s.holds ∧
      (s.scrubFault n).freeCount = s.freeCount ∧
      (s.scrubFault n).pending = s.pending := by
  unfold State.scrubFault
  try dsimp only
  repeat' split
  all_goals simp

/-- What `State.writeClass` never changes. -/
@[simp] theorem State.writeClass_frame (s : State) (n : Nat) (e : ClassEntry) :
    (s.writeClass n e).phase = s.phase ∧
      (s.writeClass n e).startup = s.startup ∧
      (s.writeClass n e).marker = s.marker ∧
      (s.writeClass n e).settings = s.settings ∧
      (s.writeClass n e).linkA = s.linkA ∧
      (s.writeClass n e).linkB = s.linkB ∧
      (s.writeClass n e).cport = s.cport ∧
      (s.writeClass n e).et = s.et ∧
      (s.writeClass n e).readers = s.readers ∧
      (s.writeClass n e).storeMap = s.storeMap ∧
      (s.writeClass n e).write = s.write ∧
      (s.writeClass n e).media = s.media ∧
      (s.writeClass n e).clock = s.clock ∧
      (s.writeClass n e).holds = s.holds ∧
      (s.writeClass n e).engine = s.engine ∧
      (s.writeClass n e).journal = s.journal ∧
      (s.writeClass n e).router = s.router ∧
      (s.writeClass n e).freeCount = s.freeCount ∧
      (s.writeClass n e).pending = s.pending := by simp [State.writeClass]

/-- What `State.setClass` never changes. -/
@[simp] theorem State.setClass_frame (s : State) (o : Origin) (n : Nat) (e : ClassEntry) :
    (s.setClass o n e).phase = s.phase ∧
      (s.setClass o n e).startup = s.startup ∧
      (s.setClass o n e).marker = s.marker ∧
      (s.setClass o n e).settings = s.settings ∧
      (s.setClass o n e).readers = s.readers ∧
      (s.setClass o n e).write = s.write ∧
      (s.setClass o n e).clock = s.clock ∧
      (s.setClass o n e).holds = s.holds ∧
      (s.setClass o n e).freeCount = s.freeCount ∧
      (s.setClass o n e).pending = s.pending := by
  unfold State.setClass
  repeat' split
  all_goals simp

/-- What `State.fixPolicy` never changes. -/
@[simp] theorem State.fixPolicy_frame (s : State) (o : Origin) :
    (s.fixPolicy o).phase = s.phase ∧
      (s.fixPolicy o).startup = s.startup ∧
      (s.fixPolicy o).marker = s.marker ∧
      (s.fixPolicy o).settings = s.settings ∧
      (s.fixPolicy o).readers = s.readers ∧
      (s.fixPolicy o).write = s.write ∧
      (s.fixPolicy o).clock = s.clock ∧
      (s.fixPolicy o).holds = s.holds ∧
      (s.fixPolicy o).freeCount = s.freeCount ∧
      (s.fixPolicy o).pending = s.pending := by simp [State.fixPolicy]

/-- What `State.addHold` never changes. -/
@[simp] theorem State.addHold_frame (s : State) (h : Hold) :
    (s.addHold h).phase = s.phase ∧
      (s.addHold h).startup = s.startup ∧
      (s.addHold h).marker = s.marker ∧
      (s.addHold h).settings = s.settings ∧
      (s.addHold h).linkA = s.linkA ∧
      (s.addHold h).linkB = s.linkB ∧
      (s.addHold h).cport = s.cport ∧
      (s.addHold h).et = s.et ∧
      (s.addHold h).readers = s.readers ∧
      (s.addHold h).storeMap = s.storeMap ∧
      (s.addHold h).write = s.write ∧
      (s.addHold h).media = s.media ∧
      (s.addHold h).clock = s.clock ∧
      (s.addHold h).classes = s.classes ∧
      (s.addHold h).engine = s.engine ∧
      (s.addHold h).journal = s.journal ∧
      (s.addHold h).router = s.router ∧
      (s.addHold h).freeCount = s.freeCount ∧
      (s.addHold h).pending = s.pending := by simp [State.addHold]

/-- What `State.noteLate` never changes. -/
@[simp] theorem State.noteLate_frame (s : State) (o : Origin) (m : Nat) (l : Option Extent) :
    (s.noteLate o m l).phase = s.phase ∧
      (s.noteLate o m l).startup = s.startup ∧
      (s.noteLate o m l).marker = s.marker ∧
      (s.noteLate o m l).settings = s.settings ∧
      (s.noteLate o m l).linkA = s.linkA ∧
      (s.noteLate o m l).linkB = s.linkB ∧
      (s.noteLate o m l).cport = s.cport ∧
      (s.noteLate o m l).et = s.et ∧
      (s.noteLate o m l).readers = s.readers ∧
      (s.noteLate o m l).storeMap = s.storeMap ∧
      (s.noteLate o m l).write = s.write ∧
      (s.noteLate o m l).media = s.media ∧
      (s.noteLate o m l).clock = s.clock ∧
      (s.noteLate o m l).classes = s.classes ∧
      (s.noteLate o m l).holds = s.holds ∧
      (s.noteLate o m l).engine = s.engine ∧
      (s.noteLate o m l).freeCount = s.freeCount ∧
      (s.noteLate o m l).pending = s.pending := by
  unfold State.noteLate
  repeat' split
  all_goals simp

/-- What `State.placeHold` never changes. -/
@[simp] theorem State.placeHold_frame (s : State) (o : Origin) (m : Nat) (c : Scope) :
    (s.placeHold o m c).phase = s.phase ∧
      (s.placeHold o m c).startup = s.startup ∧
      (s.placeHold o m c).marker = s.marker ∧
      (s.placeHold o m c).settings = s.settings ∧
      (s.placeHold o m c).readers = s.readers ∧
      (s.placeHold o m c).write = s.write ∧
      (s.placeHold o m c).clock = s.clock ∧
      (s.placeHold o m c).classes = s.classes ∧
      (s.placeHold o m c).freeCount = s.freeCount ∧
      (s.placeHold o m c).pending = s.pending := by simp [State.placeHold]

/-- What `State.liftHold` never changes. -/
@[simp] theorem State.liftHold_frame (s : State) (o : Origin) (p : Nat) (h : Hold) :
    (s.liftHold o p h).phase = s.phase ∧
      (s.liftHold o p h).startup = s.startup ∧
      (s.liftHold o p h).marker = s.marker ∧
      (s.liftHold o p h).settings = s.settings ∧
      (s.liftHold o p h).readers = s.readers ∧
      (s.liftHold o p h).write = s.write ∧
      (s.liftHold o p h).clock = s.clock ∧
      (s.liftHold o p h).classes = s.classes ∧
      (s.liftHold o p h).freeCount = s.freeCount ∧
      (s.liftHold o p h).pending = s.pending := by simp [State.liftHold]

/-- What `State.beginSplit` never changes. -/
@[simp] theorem State.beginSplit_frame (s : State) (a b : Nat) :
    (s.beginSplit a b).phase = s.phase ∧
      (s.beginSplit a b).startup = s.startup ∧
      (s.beginSplit a b).marker = s.marker ∧
      (s.beginSplit a b).settings = s.settings ∧
      (s.beginSplit a b).linkA = s.linkA ∧
      (s.beginSplit a b).linkB = s.linkB ∧
      (s.beginSplit a b).cport = s.cport ∧
      (s.beginSplit a b).et = s.et ∧
      (s.beginSplit a b).readers = s.readers ∧
      (s.beginSplit a b).write = s.write ∧
      (s.beginSplit a b).media = s.media ∧
      (s.beginSplit a b).clock = s.clock ∧
      (s.beginSplit a b).classes = s.classes ∧
      (s.beginSplit a b).holds = s.holds ∧
      (s.beginSplit a b).engine = s.engine ∧
      (s.beginSplit a b).journal = s.journal ∧
      (s.beginSplit a b).router = s.router ∧
      (s.beginSplit a b).freeCount = s.freeCount ∧
      (s.beginSplit a b).pending = s.pending := by simp [State.beginSplit]

/-- What `State.fillPage` never changes. -/
@[simp] theorem State.fillPage_frame (s : State) (i : Nat) (b : List Byte) :
    (s.fillPage i b).phase = s.phase ∧
      (s.fillPage i b).startup = s.startup ∧
      (s.fillPage i b).marker = s.marker ∧
      (s.fillPage i b).settings = s.settings ∧
      (s.fillPage i b).linkA = s.linkA ∧
      (s.fillPage i b).linkB = s.linkB ∧
      (s.fillPage i b).et = s.et ∧
      (s.fillPage i b).readers = s.readers ∧
      (s.fillPage i b).storeMap = s.storeMap ∧
      (s.fillPage i b).write = s.write ∧
      (s.fillPage i b).media = s.media ∧
      (s.fillPage i b).clock = s.clock ∧
      (s.fillPage i b).classes = s.classes ∧
      (s.fillPage i b).holds = s.holds ∧
      (s.fillPage i b).engine = s.engine ∧
      (s.fillPage i b).journal = s.journal ∧
      (s.fillPage i b).router = s.router ∧
      (s.fillPage i b).freeCount = s.freeCount ∧
      (s.fillPage i b).pending = s.pending := by simp [State.fillPage]

/-- What `State.pageFetched` never changes. -/
@[simp] theorem State.pageFetched_frame (s : State) (ref : SlotRef) (p : Option (List Byte)) :
    (s.pageFetched ref p).phase = s.phase ∧
      (s.pageFetched ref p).startup = s.startup ∧
      (s.pageFetched ref p).marker = s.marker ∧
      (s.pageFetched ref p).settings = s.settings ∧
      (s.pageFetched ref p).et = s.et ∧
      (s.pageFetched ref p).readers = s.readers ∧
      (s.pageFetched ref p).storeMap = s.storeMap ∧
      (s.pageFetched ref p).write = s.write ∧
      (s.pageFetched ref p).media = s.media ∧
      (s.pageFetched ref p).clock = s.clock ∧
      (s.pageFetched ref p).classes = s.classes ∧
      (s.pageFetched ref p).holds = s.holds ∧
      (s.pageFetched ref p).engine = s.engine ∧
      (s.pageFetched ref p).journal = s.journal ∧
      (s.pageFetched ref p).freeCount = s.freeCount ∧
      (s.pageFetched ref p).pending = s.pending := by
  unfold State.pageFetched
  repeat' split
  all_goals simp

/-- What `State.judgeFull` never changes. -/
@[simp] theorem State.judgeFull_frame (s : State) :
    (s.judgeFull).phase = s.phase ∧
      (s.judgeFull).startup = s.startup ∧
      (s.judgeFull).marker = s.marker ∧
      (s.judgeFull).settings = s.settings ∧
      (s.judgeFull).linkA = s.linkA ∧
      (s.judgeFull).linkB = s.linkB ∧
      (s.judgeFull).cport = s.cport ∧
      (s.judgeFull).et = s.et ∧
      (s.judgeFull).readers = s.readers ∧
      (s.judgeFull).storeMap = s.storeMap ∧
      (s.judgeFull).write = s.write ∧
      (s.judgeFull).media = s.media ∧
      (s.judgeFull).clock = s.clock ∧
      (s.judgeFull).classes = s.classes ∧
      (s.judgeFull).holds = s.holds ∧
      (s.judgeFull).engine = s.engine ∧
      (s.judgeFull).journal = s.journal ∧
      (s.judgeFull).freeCount = s.freeCount ∧
      (s.judgeFull).pending = s.pending := by
  unfold State.judgeFull
  repeat' split
  all_goals simp

/-- What `State.pageDone` never changes. -/
@[simp] theorem State.pageDone_frame (s : State) :
    (s.pageDone).marker = s.marker ∧
      (s.pageDone).settings = s.settings ∧
      (s.pageDone).clock = s.clock ∧
      (s.pageDone).classes = s.classes ∧
      (s.pageDone).holds = s.holds ∧
      (s.pageDone).freeCount = s.freeCount ∧
      (s.pageDone).pending = s.pending := by simp [State.pageDone]

/-- What `State.pageFault` never changes. -/
@[simp] theorem State.pageFault_frame (s : State) :
    (s.pageFault).marker = s.marker ∧
      (s.pageFault).settings = s.settings ∧
      (s.pageFault).clock = s.clock ∧
      (s.pageFault).classes = s.classes ∧
      (s.pageFault).holds = s.holds ∧
      (s.pageFault).freeCount = s.freeCount ∧
      (s.pageFault).pending = s.pending := by
  unfold State.pageFault
  try dsimp only
  repeat' split
  all_goals simp

/-- What `State.mediaError` never changes. -/
@[simp] theorem State.mediaError_frame (s : State) (op : MediaOp) :
    (s.mediaError op).marker = s.marker ∧
      (s.mediaError op).settings = s.settings ∧
      (s.mediaError op).clock = s.clock ∧
      (s.mediaError op).classes = s.classes ∧
      (s.mediaError op).holds = s.holds ∧
      (s.mediaError op).freeCount = s.freeCount ∧
      (s.mediaError op).pending = s.pending := by
  unfold State.mediaError
  split
  all_goals simp

/-- What `State.respond` never changes. -/
@[simp] theorem State.respond_frame (s : State) (m : Master) (r : Receipt) :
    (s.respond m r).phase = s.phase ∧
      (s.respond m r).startup = s.startup ∧
      (s.respond m r).marker = s.marker ∧
      (s.respond m r).settings = s.settings ∧
      (s.respond m r).et = s.et ∧
      (s.respond m r).readers = s.readers ∧
      (s.respond m r).storeMap = s.storeMap ∧
      (s.respond m r).write = s.write ∧
      (s.respond m r).media = s.media ∧
      (s.respond m r).clock = s.clock ∧
      (s.respond m r).classes = s.classes ∧
      (s.respond m r).holds = s.holds ∧
      (s.respond m r).engine = s.engine ∧
      (s.respond m r).journal = s.journal ∧
      (s.respond m r).router = s.router ∧
      (s.respond m r).freeCount = s.freeCount ∧
      (s.respond m r).pending = s.pending := by
  unfold State.respond
  repeat' split
  all_goals simp

/-- What `State.takeMark` never changes. -/
@[simp] theorem State.takeMark_frame (s : State) (m : Master) :
    (s.takeMark m).phase = s.phase ∧
      (s.takeMark m).startup = s.startup ∧
      (s.takeMark m).marker = s.marker ∧
      (s.takeMark m).settings = s.settings ∧
      (s.takeMark m).cport = s.cport ∧
      (s.takeMark m).et = s.et ∧
      (s.takeMark m).readers = s.readers ∧
      (s.takeMark m).storeMap = s.storeMap ∧
      (s.takeMark m).write = s.write ∧
      (s.takeMark m).media = s.media ∧
      (s.takeMark m).clock = s.clock ∧
      (s.takeMark m).classes = s.classes ∧
      (s.takeMark m).holds = s.holds ∧
      (s.takeMark m).engine = s.engine ∧
      (s.takeMark m).journal = s.journal ∧
      (s.takeMark m).router = s.router ∧
      (s.takeMark m).freeCount = s.freeCount ∧
      (s.takeMark m).pending = s.pending := by
  unfold State.takeMark
  repeat' split
  all_goals simp

/-- What `State.freeCollected` never changes. -/
@[simp] theorem State.freeCollected_frame (s : State) (ref : SlotRef) :
    (s.freeCollected ref).phase = s.phase ∧
      (s.freeCollected ref).startup = s.startup ∧
      (s.freeCollected ref).marker = s.marker ∧
      (s.freeCollected ref).settings = s.settings ∧
      (s.freeCollected ref).et = s.et ∧
      (s.freeCollected ref).readers = s.readers ∧
      (s.freeCollected ref).storeMap = s.storeMap ∧
      (s.freeCollected ref).write = s.write ∧
      (s.freeCollected ref).media = s.media ∧
      (s.freeCollected ref).clock = s.clock ∧
      (s.freeCollected ref).classes = s.classes ∧
      (s.freeCollected ref).holds = s.holds ∧
      (s.freeCollected ref).engine = s.engine ∧
      (s.freeCollected ref).journal = s.journal ∧
      (s.freeCollected ref).router = s.router ∧
      (s.freeCollected ref).freeCount = s.freeCount ∧
      (s.freeCollected ref).pending = s.pending := by
  unfold State.freeCollected
  try dsimp only
  repeat' split
  all_goals simp

/-- What `State.heldTag` never changes. -/
@[simp] theorem State.heldTag_frame (s : State) (c : Capsule) (i : Nat) :
    (s.heldTag c i).phase = s.phase ∧
      (s.heldTag c i).startup = s.startup ∧
      (s.heldTag c i).marker = s.marker ∧
      (s.heldTag c i).settings = s.settings ∧
      (s.heldTag c i).et = s.et ∧
      (s.heldTag c i).readers = s.readers ∧
      (s.heldTag c i).storeMap = s.storeMap ∧
      (s.heldTag c i).write = s.write ∧
      (s.heldTag c i).media = s.media ∧
      (s.heldTag c i).clock = s.clock ∧
      (s.heldTag c i).classes = s.classes ∧
      (s.heldTag c i).holds = s.holds ∧
      (s.heldTag c i).engine = s.engine ∧
      (s.heldTag c i).journal = s.journal ∧
      (s.heldTag c i).router = s.router ∧
      (s.heldTag c i).freeCount = s.freeCount ∧
      (s.heldTag c i).pending = s.pending := by
  unfold State.heldTag
  try dsimp only
  repeat' split
  all_goals simp

/-- What `State.refuseKind` never changes. -/
@[simp] theorem State.refuseKind_frame (s : State) (h : HandOver) :
    (s.refuseKind h).phase = s.phase ∧
      (s.refuseKind h).startup = s.startup ∧
      (s.refuseKind h).marker = s.marker ∧
      (s.refuseKind h).settings = s.settings ∧
      (s.refuseKind h).et = s.et ∧
      (s.refuseKind h).readers = s.readers ∧
      (s.refuseKind h).storeMap = s.storeMap ∧
      (s.refuseKind h).write = s.write ∧
      (s.refuseKind h).media = s.media ∧
      (s.refuseKind h).clock = s.clock ∧
      (s.refuseKind h).classes = s.classes ∧
      (s.refuseKind h).holds = s.holds ∧
      (s.refuseKind h).engine = s.engine ∧
      (s.refuseKind h).journal = s.journal ∧
      (s.refuseKind h).router = s.router ∧
      (s.refuseKind h).freeCount = s.freeCount ∧
      (s.refuseKind h).pending = s.pending := by
  unfold State.refuseKind
  try dsimp only
  repeat' split
  all_goals simp

/-- What `State.judgeTimer` never changes. -/
@[simp] theorem State.judgeTimer_frame (s : State) (i : Nat) :
    (s.judgeTimer i).marker = s.marker ∧
      (s.judgeTimer i).settings = s.settings ∧
      (s.judgeTimer i).clock = s.clock ∧
      (s.judgeTimer i).classes = s.classes ∧
      (s.judgeTimer i).holds = s.holds ∧
      (s.judgeTimer i).freeCount = s.freeCount ∧
      (s.judgeTimer i).pending = s.pending := by
  unfold State.judgeTimer
  try dsimp only
  repeat' split
  all_goals simp

/-- What the judgement of several timers never changes. -/
@[simp] theorem State.foldl_judgeTimer_frame (l : List Nat) (s : State) :
    (l.foldl State.judgeTimer s).marker = s.marker ∧
      (l.foldl State.judgeTimer s).settings = s.settings ∧
      (l.foldl State.judgeTimer s).clock = s.clock ∧
      (l.foldl State.judgeTimer s).classes = s.classes ∧
      (l.foldl State.judgeTimer s).holds = s.holds ∧
      (l.foldl State.judgeTimer s).freeCount = s.freeCount ∧
      (l.foldl State.judgeTimer s).pending = s.pending := by
  induction l generalizing s with
  | nil => simp
  | cons a l ih => simp [ih]

/-- What `State.judgeTick` never changes. -/
@[simp] theorem State.judgeTick_frame (s : State) :
    (s.judgeTick).marker = s.marker ∧
      (s.judgeTick).settings = s.settings ∧
      (s.judgeTick).classes = s.classes ∧
      (s.judgeTick).holds = s.holds ∧
      (s.judgeTick).freeCount = s.freeCount ∧
      (s.judgeTick).pending = s.pending := by simp [State.judgeTick]

end Sys2Proof.Machine
end

