-- ==== Sys2Proof/Laws/Capsules.lean ====
section
/-! SUPPORT. A capsule that reaches its owner (`Reaches`): what the hand-over does around the owner's verdict, said once
for every kind. -/

namespace Sys2Proof.Machine

theorem State.slots_takeMark (s : State) (m : Master) : (s.takeMark m).slots = s.slots := by
  funext k
  cases m with
  | cport => rfl
  | node n => cases n <;> rcases k with (_ | _) | _ <;> rfl

theorem State.slot_takeMark (s : State) (m : Master) : (s.takeMark m).slot = s.slot := by
  funext r
  simp [State.slot, State.slots_takeMark]

theorem State.freeSlot_takeMark (s : State) (m k : Master) : (s.takeMark m).freeSlot k = s.freeSlot k := by
  simp [State.freeSlot, State.slots_takeMark]

theorem State.tagSlot_takeMark (s : State) (m k : Master) (tag : Byte) :
    (s.takeMark m).tagSlot k tag = s.tagSlot k tag := by
  simp [State.tagSlot, State.slots_takeMark]

theorem State.taking_takeMark (s : State) (m : Master) : (s.takeMark m).taking = s.taking := by
  simp [State.taking]

theorem State.extent_takeMark (s : State) (m : Master) : (s.takeMark m).extent = s.extent :=
  State.extent_congr (by simp)

theorem State.fragmentCheck_takeMark (s : State) (m k : Master) (q : Req) (l : List Fragment) :
    (s.takeMark m).fragmentCheck k q l = s.fragmentCheck k q l := by
  cases m with
  | cport => rfl
  | node n => cases n <;> rcases k with (_ | _) | _ <;> rfl

/-- What is told to the owner of a capsule that reaches it. -/
def Ctx.of (s : State) (c : Capsule) (frags : List Fragment) : Ctx := ⟨c.master, s.cport.role, s.freeSlot c.master, frags⟩

/-- A capsule that reaches its owner is answered by the owner's verdict on the state with the link's mark cleared. -/
theorem State.handOver_of_reaches {s : State} {h : HandOver} {c : Capsule} {q : Req} {frags : List Fragment}
    (R : Reaches s h c q frags) (owner : Ctx → Req → State → Verdict) :
    s.handOver h q.kind owner =
      (s.takeMark c.master).conclude c (owner (Ctx.of s c frags) q (s.takeMark c.master)) := by
  obtain ⟨n, hs, hf⟩ := R.shape
  simp only [State.handOver, R.received, hs, if_true, State.judge, State.taking_takeMark, R.taking, Bool.not_true,
    Bool.false_eq_true, if_false, State.takeMark_frame, R.allowed, State.tagSlot_takeMark, R.fresh, R.request,
    State.fragmentCheck_takeMark, hf, R.fragments, State.ctx, State.freeSlot_takeMark, Ctx.of]

theorem State.conclude_refuse (s : State) (c : Capsule) (code : Code) (fields : List Byte) :
    (s.takeMark c.master).conclude c (.refuse code fields) = s.answered c .refused code none fields := by
  simp [State.conclude, State.answered]

theorem State.conclude_done (s t : State) (c : Capsule) (code : Code) (fields : List Byte) :
    (s.takeMark c.master).conclude c (.done code fields t) = t.finish c s.cport.role code fields := by
  simp [State.conclude, State.finish]

theorem State.conclude_take (s t : State) (c : Capsule) (i : Nat) (w : Work) (fields : List Byte) :
    (s.takeMark c.master).conclude c (.take i w fields t) = t.begin c s.cport.role i w fields := by
  simp [State.conclude, State.begin, Capsule.runs]

end Sys2Proof.Machine
end

