-- ==== Sys2Proof/Laws/PerInstr.lean ====
section
/-! SUPPORT. One lemma per command, about the command as syntax: no table word spells it, since spec/opcode_table.json
gives its rows no bits. -/

namespace Sys2Proof.Laws.Reach

/-- No word of any width spells the command. -/
def Statement (i : Instr) : Prop := ∀ nbits w : Nat, decodeTableWord nbits w ≠ some i

/-- The decoder spells no command at all. -/
theorem none_spelt (i : Instr) : Statement i := fun _ _ h => by simp [decodeTableWord] at h

theorem powerOn (env : StartEnv) : Statement (.powerOn env) := none_spelt _
theorem resetNAssert : Statement .resetNAssert := none_spelt _
theorem resetNRelease (env : StartEnv) : Statement (.resetNRelease env) := none_spelt _
theorem recoveryVoid : Statement .recoveryVoid := none_spelt _
theorem start : Statement .start := none_spelt _
theorem linkReset (n : Node) : Statement (.linkReset n) := none_spelt _
theorem linkUp (n : Node) : Statement (.linkUp n) := none_spelt _
theorem msiEnableWrite (n : Node) (enable : Bool) : Statement (.msiEnableWrite n enable) := none_spelt _
theorem capsuleWindowWrite (n : Node) (offset : Nat) (bytes : List Byte) : Statement (.capsuleWindowWrite n offset bytes) := none_spelt _
theorem noCapsule (r : ReceiptRead) : Statement (.noCapsule r) := none_spelt _
theorem badKind (h : HandOver) : Statement (.badKind h) := none_spelt _
theorem cportPartialCapsule (addr : BitVec 7) (bytes : List Byte) : Statement (.cportPartialCapsule addr bytes) := none_spelt _
theorem cportReceiptRead (addr : BitVec 7) (len : Nat) : Statement (.cportReceiptRead addr len) := none_spelt _
theorem roleChange : Statement .roleChange := none_spelt _
theorem openExtent (h : HandOver) : Statement (.openExtent h) := none_spelt _
theorem append (h : HandOver) : Statement (.append h) := none_spelt _
theorem close (h : HandOver) : Statement (.close h) := none_spelt _
theorem abandon (h : HandOver) : Statement (.abandon h) := none_spelt _
theorem read (h : HandOver) : Statement (.read h) := none_spelt _
theorem verify (h : HandOver) : Statement (.verify h) := none_spelt _
theorem query (h : HandOver) : Statement (.query h) := none_spelt _
theorem find (h : HandOver) : Statement (.find h) := none_spelt _
theorem status (h : HandOver) : Statement (.status h) := none_spelt _
theorem window (h : HandOver) : Statement (.window h) := none_spelt _
theorem time (h : HandOver) : Statement (.time h) := none_spelt _
theorem events (h : HandOver) : Statement (.events h) := none_spelt _
theorem dispose (h : HandOver) : Statement (.dispose h) := none_spelt _
theorem holdPlace (h : HandOver) : Statement (.holdPlace h) := none_spelt _
theorem holdLift (h : HandOver) : Statement (.holdLift h) := none_spelt _
theorem holdList (h : HandOver) : Statement (.holdList h) := none_spelt _
theorem extend (h : HandOver) : Statement (.extend h) := none_spelt _
theorem classSet (h : HandOver) : Statement (.classSet h) := none_spelt _
theorem classGet (h : HandOver) : Statement (.classGet h) := none_spelt _
theorem policyFix (h : HandOver) : Statement (.policyFix h) := none_spelt _
theorem adopt (h : HandOver) : Statement (.adopt h) := none_spelt _
theorem route (h : HandOver) : Statement (.route h) := none_spelt _
theorem split (h : HandOver) : Statement (.split h) := none_spelt _
theorem journalRead (h : HandOver) : Statement (.journalRead h) := none_spelt _
theorem tick : Statement .tick := none_spelt _
theorem openTimeoutDue (store : Nat) : Statement (.openTimeoutDue store) := none_spelt _
theorem openTimeout (store : Nat) : Statement (.openTimeout store) := none_spelt _
theorem splitTimeout : Statement .splitTimeout := none_spelt _
theorem holdover : Statement .holdover := none_spelt _
theorem partialPageTime : Statement .partialPageTime := none_spelt _
theorem mediaAnswerLimit : Statement .mediaAnswerLimit := none_spelt _
theorem dmaReadTimeout (n : Node) (slot : Nat) (sent : Nat) : Statement (.dmaReadTimeout n slot sent) := none_spelt _
theorem fetchComplete (n : Node) (slot : Nat) (fragments : List (List Byte)) : Statement (.fetchComplete n slot fragments) := none_spelt _
theorem fetchFailed (n : Node) (slot : Nat) : Statement (.fetchFailed n slot) := none_spelt _
theorem appendProgramOk : Statement .appendProgramOk := none_spelt _
theorem appendProgramMediaError : Statement .appendProgramMediaError := none_spelt _
theorem trailerOk : Statement .trailerOk := none_spelt _
theorem trailerMediaError : Statement .trailerMediaError := none_spelt _
theorem mediaFaultVoid (store : Nat) : Statement (.mediaFaultVoid store) := none_spelt _
theorem readFetchOk (data : List Byte) : Statement (.readFetchOk data) := none_spelt _
theorem readFetchMediaError : Statement .readFetchMediaError := none_spelt _
theorem readDmaComplete (n : Node) (slot : Nat) : Statement (.readDmaComplete n slot) := none_spelt _
theorem readDmaFailed (n : Node) (slot : Nat) (placed : Nat) : Statement (.readDmaFailed n slot placed) := none_spelt _
theorem verifyFetchOk (data : List Byte) : Statement (.verifyFetchOk data) := none_spelt _
theorem verifyFetchMediaError : Statement .verifyFetchMediaError := none_spelt _
theorem integrityRecord (slot : SlotRef) : Statement (.integrityRecord slot) := none_spelt _
theorem journalReadFetchDone (page : Option (List Byte)) : Statement (.journalReadFetchDone page) := none_spelt _
theorem headTake : Statement .headTake := none_spelt _
theorem readersDrained : Statement .readersDrained := none_spelt _
theorem scrubCompleteOk : Statement .scrubCompleteOk := none_spelt _
theorem disposed : Statement .disposed := none_spelt _
theorem scrubMediaError : Statement .scrubMediaError := none_spelt _
theorem disposalFailed : Statement .disposalFailed := none_spelt _
theorem splitApply : Statement .splitApply := none_spelt _
theorem journalWriteOk : Statement .journalWriteOk := none_spelt _
theorem journalWriteMediaError : Statement .journalWriteMediaError := none_spelt _
theorem coalescedClockState : Statement .coalescedClockState := none_spelt _
theorem cmodeSample (low : Bool) : Statement (.cmodeSample low) := none_spelt _
theorem powerLoss : Statement .powerLoss := none_spelt _

end Sys2Proof.Laws.Reach
end

