-- ==== Sys2Proof/Laws/Places.lean ====
section
/-! SUPPORT. What each operation over journal places can do, one lemma each: every later proof takes its cases from these. -/

namespace Sys2Proof.Machine

/-- A request is granted in its step or joins the end of the waiting ones (R155). -/
theorem State.request_cases (s : State) (r : PlaceRequest) :
    (s.journal.grants = true ∧ s.request r = (s.settle r).judgePage) ∨
      (s.journal.grants = false ∧ s.request r = s.askPlace r) := by
  unfold State.request
  cases s.journal.grants <;> simp

/-- A grant row serves the request that waits first, or changes nothing (R155). -/
theorem State.grantPlace_cases (s : State) (r : PlaceRequest) :
    (s.journal.grantable r = true ∧ s.grantPlace r = ((s.dropWait r).settle r).judgePage) ∨
      (s.journal.grantable r = false ∧ s.grantPlace r = s) := by
  unfold State.grantPlace
  cases s.journal.grantable r <;> simp

/-- What is grantable waits at the head, behind no mark, and is taken now. -/
theorem Journal.grantable_spec {j : Journal} {r : PlaceRequest} (h : j.grantable r = true) :
    ∃ rest, j.waits = r :: rest ∧ j.mark = none ∧ j.takesNow = true := by
  unfold Journal.grantable at h
  cases w : j.waits with
  | nil => simp [w] at h
  | cons a l =>
    simp only [w, List.head?_cons, Bool.and_eq_true, beq_iff_eq, Option.some.injEq, Option.isNone_iff_eq_none] at h
    exact ⟨l, by rw [h.1.2], h.1.1, h.2⟩

/-- A pending split that is quiet applies in the step or begins to wait; any other leaves the state (R32, R155). -/
theorem State.askSplit_cases (s : State) :
    s.askSplit = s ∨ (s.storeMap.quiet = true ∧ s.storeMap.split.isSome = true ∧
      (s.askSplit = s.settleSplit ∨ s.askSplit = s.askPlace .splitDone)) := by
  unfold State.askSplit
  split
  · next h =>
    simp only [Bool.and_eq_true] at h
    refine .inr ⟨h.1.2, h.1.1, ?_⟩
    split
    · exact .inl rfl
    · exact .inr rfl
  · exact .inl rfl

/-- Without a pending split nothing is asked for. -/
theorem State.askSplit_none {s : State} (h : s.storeMap.split = none) : s.askSplit = s := by
  simp [State.askSplit, h]

/-- A step that has entered a record judges the page write, and any other does not (R157). -/
theorem State.judgeSince_cases (t s : State) : t.judgeSince s = t ∨ t.judgeSince s = t.judgePage := by
  unfold State.judgeSince
  split
  · exact .inl rfl
  · exact .inr rfl

/-- The page write is placed or the state stays (R157). -/
theorem State.judgePage_cases (s : State) :
    s.judgePage = s ∨ (s.pageDue = true ∧ s.judgePage =
      s.place ⟨.journalWrite s.journal.counter, none, s.journal.base + s.journal.counter, 1⟩) := by
  unfold State.judgePage
  split
  · exact .inr ⟨‹_›, rfl⟩
  · exact .inl rfl

end Sys2Proof.Machine
end

