-- ==== Sys2Proof/Tests/Slice0.lean ====
section
/-! SUPPORT. Tests. The ill-formed terms WellFormed refuses; one or two steps of each command on small states, their
expected values taken from the manual's tables or worked by hand from its rules; and for each statement with
hypotheses a concrete state and operands that meet them. -/

namespace Sys2Proof.Tests

set_option Elab.async false

open Sys2Proof Sys2Proof.Machine

/-! ### Small states -/

/-- The state after a command; the state itself where the command stops. -/
def after (i : Instr) (s : State) : State :=
  match exec i s with
  | .next t => t
  | .fault _ => s
  | .refused _ => s

/-- Store 0: blocks 4,096 to 14,095, free. -/
def store0 : Store := ⟨4096, 14096, 4096, 0, none, .active⟩

/-- A class of one day. -/
def oneDay : ClassEntry := ⟨true, 1, false, false⟩

/-- A part that takes capsules: both links up, the staging window of link A open over 65,536 to 327,679, CPORT in COMPLIANCE,
class 4 of one day under a fixed policy, archive day 200, tick 100, a journal of 4,096 pages. -/
def base : State :=
  { State.reset with
    phase := .running
    marker := true
    linkA := { LinkState.reset with up := true, base := 1, limit := 4 }
    linkB := { LinkState.reset with up := true }
    cport := { CPort.reset with role := .compliance, candidate := .compliance }
    storeMap := ⟨4096, 10000, [store0], none⟩
    clock := { Clock.reset 17280000 with tick := 100, state := .locked }
    classes := ⟨(List.replicate 16 ClassEntry.blank).set 4 oneDay, true⟩
    journal := ⟨0, 4096, [], 1, 0, 0, [], 0, none, []⟩ }

/-- An extent that node A opened in store 0 under class 4, quiet since tick 90. -/
def openExt (n : Nat) : Extent :=
  ⟨n, 70 + n, 12, 0, 4, .a, 4096, 3, .opened, some 90, some .nothing, some crcInitial, none, none, none, none, none, none,
    none, none, none, none, none⟩

/-- The same extent committed on archive day 100. -/
def doneExt (n : Nat) : Extent :=
  ⟨n, 70 + n, 12, 0, 4, .a, 4096, 3, .committed, none, none, none, some 8640000, some false, some 5, some .unverified,
    none, none, none, none, none, none, none⟩

/-- The same extent DISPOSING. -/
def goneExt (n : Nat) (sub : SubState) (attempts : Nat) : Extent :=
  { doneExt n with state := .disposing, sub := some sub, attempts := some attempts }

/-- A tombstone whose journal record has the sequence. -/
def tombExt (n seq : Nat) : Extent :=
  { doneExt n with state := .released, disposalSecond := some 9, dispSeq := some seq }

/-- The part with these records, the last number assigned being the greatest. -/
def withExts (l : List Extent) (s : State) : State :=
  s.withEt ⟨l, (l.map (·.number)).foldl max 0 + 1, l.map (fun r => (r.key, r.number))⟩

/-- Extent 1 OPEN in store 0, its timer RUNNING. -/
def writing : State :=
  ((withExts [openExt 1] base).withStoreMap ⟨4096, 10000, [{ store0 with openExtent := some 1 }], none⟩).withWrite
    (base.write.set 0 ⟨.empty, .running⟩)

/-- Extent 1 COMMITTED. -/
def reading : State := withExts [doneExt 1] base

/-- Extent 1 is the head of the disposal queue. -/
def scrubbing (sub : SubState) (attempts : Nat) (stage : Stage) : State :=
  (withExts [goneExt 1 sub attempts] base).withEngine ⟨[⟨1, .master .cport, none⟩], stage⟩

/-- The buffer with `n` places occupied. -/
def filled (n : Nat) (s : State) : State :=
  s.withJournal { s.journal with
    buffer := List.replicate n ⟨⟨1, 0, .device, .disposalFailed 0 0 0 0 0, 0⟩, 100⟩ }

/-- The channel busy with an operation issued at tick 95. -/
def busy (q : Requester) (blocks : Nat) (s : State) : State :=
  s.withMedia { s.media with channel := some ⟨⟨q, none, 4096, blocks⟩, 95⟩ }

/-- A request waits for its place. -/
def waiting (r : PlaceRequest) (s : State) : State := s.withJournal { s.journal with waits := [r] }

/-- The tag and copy of a slot. -/
def held : Held := ⟨9, []⟩

/-- Slot 0 of link A runs an operation. -/
def running (w : Work) (s : State) : State := s.setSlot ⟨.node .a, 0⟩ (.running held w)

/-! ### Capsules -/

/-- Node A has written a capsule of tag 7 into its window. -/
def loaded (q : Req) (l : List Fragment) (s : State) : State :=
  s.withLinkA { s.linkA with window := padTo 512 (capsuleBytes q 7 l), mark := true }

/-- The capsule node A hands over. -/
def ofA (q : Req) (l : List Fragment) : Capsule := ⟨.node .a, padTo 512 (capsuleBytes q 7 l)⟩

/-- The I2C write that carries a capsule of tag 7. -/
def written (q : Req) : HandOver := .write 0x52 (capsuleBytes q 7 [])

/-- The capsule the console hands over. -/
def ofC (q : Req) : Capsule := ⟨.cport, capsuleBytes q 7 []⟩

/-- Everything `Reaches` asks, as one check. -/
def reaching (s : State) (h : HandOver) (c : Capsule) (q : Req) (l : List Fragment) : Bool :=
  decide (s.received h = some c) && s.taking && decide (c.shape = some (q.kind, l.length)) &&
    decide (c.fragments q.kind l.length = l) && decide (c.request q.kind = q) &&
    q.kind.takenFrom c.master s.cport.role && decide (s.tagSlot c.master c.tag = none) &&
    decide (s.fragmentCheck c.master q l = none)

theorem reaches_of {s : State} {h : HandOver} {c : Capsule} {q : Req} {l : List Fragment}
    (e : reaching s h c q l = true) : Reaches s h c q l := by
  simp only [reaching, Bool.and_eq_true, decide_eq_true_eq] at e
  obtain ⟨⟨⟨⟨⟨⟨⟨a, b⟩, d⟩, f⟩, g⟩, i⟩, j⟩, k⟩ := e
  exact ⟨a, b, ⟨_, d, f⟩, g, i, j, k⟩

/-- Disposition and code of the receipt node A finds after it sent a capsule. -/
def answerA (q : Req) (l : List Fragment) (s : State) : Option (Disposition × Code) :=
  ((after (q.kind.command (.read .a)) (loaded q l s)).linkA.receipt).map (fun r => (r.disposition, r.code))

/-- Disposition and code of the receipt the console finds after it sent a capsule. -/
def answerC (q : Req) (s : State) : Option (Disposition × Code) :=
  ((after (q.kind.command (written q)) s).cport.last).map (fun r => (r.receipt.disposition, r.receipt.code))

/-- REFUSED with a code. -/
def no (c : Code) : Option (Disposition × Code) := some (.refused, c)

/-- DONE with a code. -/
def done (c : Code) : Option (Disposition × Code) := some (.done, c)

/-- TAKEN. -/
def taken : Option (Disposition × Code) := some (.taken, .ok)

/-- One fragment of `n` blocks at the start of the window. -/
def frag (n : Nat) : List Fragment := [⟨65536, n * 4096⟩]

/-! ### WellFormed refuses each ill-formed term -/

theorem test_ill_formed_commands :
    [Instr.capsuleWindowWrite .a 512 [0], .capsuleWindowWrite .a 512 [], .capsuleWindowWrite .a 0 (List.replicate 513 0),
      .cportPartialCapsule 0x52 (List.replicate 128 0), .cportReceiptRead 0x52 0, .openTimeoutDue 4, .openTimeout 4,
      .mediaFaultVoid 4, .dmaReadTimeout .a 8 0, .fetchComplete .a 8 [[0]], .fetchComplete .a 0 [],
      .fetchComplete .a 0 (List.replicate 17 [0]), .fetchFailed .b 8, .readFetchOk [0], .readFetchOk [],
      .readDmaComplete .a 8, .readDmaFailed .a 8 0, .verifyFetchOk [0], .integrityRecord ⟨.cport, 2⟩,
      .integrityRecord ⟨.node .b, 8⟩, .journalReadFetchDone (some [])].map Instr.wellFormed = List.replicate 21 false := by
  decide +kernel

theorem test_well_formed_commands :
    [Instr.capsuleWindowWrite .a 511 [0], .capsuleWindowWrite .a 511 [], .linkReset .b,
      .cportPartialCapsule 0x52 (List.replicate 127 0), .openTimeout 3,
      .fetchComplete .a 7 [[0]], .integrityRecord ⟨.cport, 1⟩, .journalReadFetchDone none].map Instr.wellFormed =
      List.replicate 8 true := by decide +kernel

/-! ### Bytes (R61, R153, 13.1) -/

theorem test_data_check_of_the_nine_bytes :
    dataCheck [0x31, 0x32, 0x33, 0x34, 0x35, 0x36, 0x37, 0x38, 0x39] = 0xCBF43926#32 := by decide +kernel

/-- An OPEN of store 0, class 4, group 212, key 512006 as 13.1 lays it out. -/
theorem test_open_bytes :
    capsuleBytes (.openExtent 0 4 212 512006) 0x40 [] =
      [16, 0, 1, 0x40, 0, 4, 212, 0, 0x06, 0xD0, 0x07, 0, 0, 0, 0, 0] := by decide +kernel

theorem test_append_bytes :
    capsuleBytes (.append 1 2) 0x41 [⟨65536, 8192⟩] =
      [28, 0, 2, 0x41, 1, 0, 0, 0, 2, 0, 0, 0, 0, 0, 1, 0, 0, 0, 0, 0, 0, 0x20, 0, 0, 0, 0, 0, 0] := by decide +kernel

/-! ### Capsule kinds: the codes of their checks, at the boundaries -/

/-- R39. -/
theorem test_open_codes :
    [answerA (.openExtent 0 4 12 90) [] (base.withClasses { base.classes with fixed := false }),
      answerA (.openExtent 1 4 12 90) [] base,
      answerA (.openExtent 0 4 12 90) [] writing,
      answerA (.openExtent 0 4 12 90) [] (base.withStoreMap ⟨0, 0, [{ store0 with state := .splitting }], none⟩),
      answerA (.openExtent 0 4 12 90) [] (base.withStoreMap ⟨0, 0, [{ store0 with state := .full }], none⟩),
      answerA (.openExtent 0 5 12 90) [] base,
      answerA (.openExtent 0 4 12 0) [] base,
      answerA (.openExtent 0 4 4096 90) [] base,
      answerA (.openExtent 0 4 12 71) [] reading,
      answerA (.openExtent 0 4 12 71) [] (withExts [tombExt 1 0] base),
      answerA (.openExtent 0 4 12 90) [] (base.withEt ⟨[], 4294967296, []⟩),
      answerA (.openExtent 0 4 4095 90) [] (base.withEt ⟨[], 4294967295, []⟩)] =
    [no .policyOpen, no .badStore, no .storeBusy, no .storeBusy, no .storeFull, no .badClass, no .badKey, no .badRange,
      no .duplicateKey, no .keyRetired, no .tableFull, done .ok] := by decide +kernel

/-- R40: the record at the frontier, its key, the next number, the open extent and the timer. -/
theorem test_open_creates :
    let t := after (.openExtent (.read .a)) (loaded (.openExtent 0 4 12 90) [] base)
    (t.et.next, t.et.keys, (t.extent 1).map (fun r => (r.key, r.group, r.start))) = (2, [(90, 1)], some (90, 12, 4096)) ∧
      (t.storeMap.stores.map (·.openExtent), (t.unit 0).timer, t.linkA.mark) = ([some 1], .running, false) := by
  decide +kernel

/-- R42, R27, R43. -/
theorem test_append_codes :
    [answerA (.append 1 0) (frag 1) writing, answerA (.append 1 33) (frag 32) writing,
      answerA (.append 0 1) (frag 1) writing, answerA (.append 2 1) (frag 1) writing,
      answerA (.append 1 1) (frag 1) (base.withEt ⟨[], 2, []⟩),
      answerA (.append 1 1) (frag 1) (withExts [{ openExt 1 with opener := .b }] base),
      answerA (.append 1 1) (frag 1) (withExts [{ openExt 1 with state := .voided }] base),
      answerA (.append 1 1) (frag 1) reading,
      answerA (.append 1 1) (frag 1) (withExts [{ openExt 1 with inFlight := some .append }] base),
      answerA (.append 1 1) (frag 1) (withExts [{ openExt 1 with count := 4096 }] base),
      answerA (.append 1 1) (frag 1) (withExts [{ openExt 1 with count := 4095 }] base),
      answerA (.append 1 1) (frag 1) (writing.withStoreMap ⟨0, 0, [{ store0 with frontier := 14095 }], none⟩),
      answerA (.append 1 1) (frag 1) (writing.withStoreMap ⟨0, 0, [{ store0 with frontier := 14094 }], none⟩),
      answerA (.append 1 1) (frag 1) (writing.withLinkA { writing.linkA with
        slots := List.replicate 8 (.running held (.close 5)) })] =
    [no .badRange, no .badRange, no .notFound, no .notFound, no .evicted, no .notOpener, no .extentVoid, no .notOpen,
      no .extentBusy, no .extentFull, taken, no .storeSpace, taken, no .slotsFull] := by decide +kernel

/-- R43: the reservation, the operation in flight, the area and the timer. -/
theorem test_append_begins :
    let t := after (.append (.read .a)) (loaded (.append 1 2) (frag 2) writing)
    (t.storeMap.stores.map (·.reservation), (t.extent 1).bind (·.inFlight), t.unit 0,
      (t.slot ⟨.node .a, 0⟩).map (·.isFree)) = ([2], some .append, ⟨.filling, .idle⟩, some false) := by decide +kernel

/-- R48. -/
theorem test_close_codes :
    [answerA (.close 1) [] (withExts [{ openExt 1 with count := 0 }] base), answerA (.close 1) [] writing,
      answerA (.close 1) [] (writing.withLinkA { writing.linkA with
        slots := List.replicate 8 (.running held (.close 5)) }), answerA (.close 2) [] writing] =
    [no .empty, taken, no .slotsFull, no .notFound] := by decide +kernel

/-- R48, R49: CLOSING, and the PROGRAM of the trailer issued at the frontier. -/
theorem test_close_begins :
    let t := after (.close (.read .a)) (loaded (.close 1) [] writing)
    ((t.extent 1).map (·.state), t.media.channel.map (fun f => (f.op.requester, f.op.first, f.op.count)),
      t.storeMap.stores.map (·.frontier)) = (some .closing, some (.trailer 0, 4096, 1), [4097]) := by decide +kernel

/-- R53. -/
theorem test_abandon_codes :
    [answerA (.abandon 1) [] writing, answerC (.abandon 1) writing, answerA (.abandon 1) [] (filled 56 writing),
      answerA (.abandon 1) [] (filled 55 writing),
      answerC (.abandon 1) (writing.withJournal { writing.journal with counter := 4096 })] =
    [done .ok, done .ok, no .journalBacklog, done .ok, no .journalFull] := by decide +kernel

/-- R65. -/
theorem test_read_codes :
    [answerA (.read 1 0 0) (frag 1) reading, answerA (.read 1 0 33) (frag 32) reading,
      answerA (.read 2 0 1) (frag 1) reading, answerA (.read 1 0 1) (frag 1) (base.withEt ⟨[], 2, []⟩),
      answerA (.read 1 0 1) (frag 1) writing, answerA (.read 1 0 1) (frag 1) (withExts [tombExt 1 0] base),
      answerA (.read 1 0 1) (frag 1) (scrubbing .scrubNext 0 .readers),
      answerA (.read 1 0 1) (frag 1) (scrubbing .queued 0 .idle),
      answerA (.read 1 3 1) (frag 1) reading, answerA (.read 1 2 1) (frag 1) reading,
      answerA (.read 1 0 1) (frag 1) (reading.withLinkA { reading.linkA with
        slots := List.replicate 8 (.running held (.close 5)) })] =
    [no .badRange, no .badRange, no .notFound, no .evicted, no .notCommitted, no .gone, no .gone, taken, no .badRange,
      taken, no .slotsFull] := by decide +kernel

/-- R63, R65: the reader count and the FETCH from the block of the offset. -/
theorem test_read_begins :
    let t := after (.read (.read .a)) (loaded (.read 1 2 1) (frag 1) reading)
    (t.readerCount 1, t.media.channel.map (fun f => (f.op.origin, f.op.first, f.op.count))) =
    (1, some (some (.node .a), 4098, 1)) := by decide +kernel

/-- R68. -/
theorem test_verify_codes :
    [answerC (.verify 0) reading, answerC (.verify 2) reading, answerC (.verify 1) writing,
      answerC (.verify 1) (withExts [tombExt 1 0] base), answerC (.verify 1) reading,
      answerA (.verify 1) [] reading] =
    [no .notFound, no .notFound, no .notCommitted, no .gone, taken, taken] := by decide +kernel

/-- R18, R21, R174, R133, R114. -/
theorem test_report_codes :
    [answerC (.query 0) reading, answerC (.query 1) reading, answerC (.query 2) reading,
      answerC (.query 1) (base.withEt ⟨[], 2, []⟩), answerC (.find 0) reading, answerC (.find 71) reading,
      answerC (.find 72) reading, answerC (.status 6) base, answerC (.status 7) base, answerC (.holdList 0) base,
      answerC (.classGet 15) base, answerC (.classGet 16) base] =
    [done .notFound, done .ok, done .notFound, done .evicted, no .badKey, done .ok, done .notFound, done .ok,
      no .badRange, done .notFound, done .ok, no .badClass] := by decide +kernel

/-- R171: a WINDOW with base above limit closes the window. -/
theorem test_window_closes :
    answerA (.append 1 1) (frag 1)
      (after (.window (.read .a)) (loaded (.window 5 4) [] writing)) = no .windowClosed := by decide +kernel

/-- R94: a mark 15 ticks after the last is absorbed, one 16 ticks after it is taken. -/
theorem test_time_spacing :
    [answerA (.time 17280000) [] (base.withLinkA { base.linkA with spacing := some 85 }),
      answerA (.time 17280000) [] (base.withLinkA { base.linkA with spacing := some 84 })] =
    [done .absorbed, done .ok] := by decide +kernel

/-- R95 to R97: offsets of 30 and -30 seconds steer, 31 is far, and the third far mark makes DRIFT. -/
theorem test_time_marks :
    [17280030, 17279970, 17280031].map (fun r =>
      let c := (after (.time (.read .a)) (loaded (.time r) [] (base.withClock { base.clock with streak := 2 }))).clock
      (c.advance, c.retard, c.streak, c.state)) =
    [(30, 0, 0, .locked), (0, 30, 0, .locked), (0, 0, 3, .drift)] := by decide +kernel

/-- R182. -/
theorem test_route_codes :
    [answerC (.route 1 ⟨true, true, true⟩) base, answerC (.route 2 ⟨true, true, true⟩) base,
      answerC (.route 10 ⟨false, false, false⟩) base, answerC (.route 11 ⟨true, true, true⟩) base,
      answerC .events base] =
    [no .badRange, done .ok, done .ok, no .badRange, done .ok] := by decide +kernel

/-- R137, R140, R166. -/
theorem test_dispose_codes :
    [answerC (.dispose 2 1) reading, answerC (.dispose 1 1) reading, answerC (.dispose 2 2) reading,
      answerA (.dispose 1 1) [] reading,
      answerC (.dispose 1 1) (reading.withJournal { reading.journal with counter := 4088 }),
      answerC (.dispose 1 1) (reading.withJournal { reading.journal with counter := 4087 }),
      answerC (.dispose 1 1) (reading.withCport { reading.cport with
        slots := List.replicate 2 (.running held .split) })] =
    [no .badRange, taken, done .ok, taken, no .journalFull, taken, no .slotsFull] := by decide +kernel

/-- R138: the outcomes of eight extents for a node, in order. -/
theorem test_dispose_counts :
    let s := withExts [openExt 1, goneExt 2 .queued 0, { doneExt 3 with state := .disposalFailed, attempts := some 3 },
      { doneExt 4 with commitSecond := some 17193600 }, { doneExt 5 with group := 13 },
      { doneExt 6 with provisional := some true }, doneExt 7, tombExt 8 0]
      (base.withHolds ⟨[⟨5, 0, ⟨some 13, none, none⟩, 0⟩], 1⟩)
    ((after (.dispose (.read .a)) (loaded (.dispose 1 9) [] s)).slot ⟨.node .a, 0⟩).map (fun v =>
      match v with
      | .running _ (.dispose w) => w.counts
      | _ => []) = some [1, 1, 2, 1, 1, 1, 1, 1] := by decide +kernel

/-- R126. -/
theorem test_hold_place_codes :
    [answerC (.holdPlace 0 ⟨none, none, none⟩) base, answerC (.holdPlace 5 ⟨some 4096, none, none⟩) base,
      answerC (.holdPlace 5 ⟨some 4095, some (4, 4), some (2, 2)⟩) base,
      answerC (.holdPlace 5 ⟨none, some (4, 3), none⟩) base, answerC (.holdPlace 5 ⟨none, none, some (3, 2)⟩) base,
      answerC (.holdPlace 5 ⟨none, none, none⟩) (base.withHolds ⟨[⟨5, 0, ⟨none, none, none⟩, 0⟩], 1⟩),
      answerC (.holdPlace 5 ⟨none, none, none⟩) (base.withHolds ⟨List.replicate 64 ⟨6, 0, ⟨none, none, none⟩, 0⟩, 1⟩),
      answerC (.holdPlace 5 ⟨none, none, none⟩) (base.withHolds ⟨List.replicate 63 ⟨6, 0, ⟨none, none, none⟩, 0⟩, 1⟩),
      answerC (.holdPlace 5 ⟨none, none, none⟩) (filled 56 base),
      answerC (.holdPlace 5 ⟨none, none, none⟩) (base.withJournal { base.journal with counter := 4096 }),
      answerC (.holdPlace 5 ⟨none, none, none⟩) (base.withJournal { base.journal with counter := 4095 })] =
    [no .badMatter, no .badScope, done .ok, no .badScope, no .badScope, no .matterActive, no .holdListFull, done .ok,
      no .journalBacklog, no .journalFull, done .ok] := by decide +kernel

/-- R128: the extent at SCRUBBING is late, the hold counts it, and two records are entered. -/
theorem test_hold_late :
    let t := after (.holdPlace (written (.holdPlace 5 ⟨none, none, none⟩))) (scrubbing .scrubbing 0 .scrubbing)
    (t.holds.list.map (·.late), t.journal.buffer.map (fun e => e.record.subject.kind), t.pendingSet .cport) =
    ([1], [5, 6], [.holdLate]) := by decide +kernel

/-- R131. -/
theorem test_hold_lift_codes :
    let s := base.withHolds ⟨[⟨5, 0, ⟨none, none, none⟩, 0⟩], 1⟩
    [answerC (.holdLift 0) s, answerC (.holdLift 6) s, answerC (.holdLift 5) s, answerC (.holdLift 5) (filled 56 s),
      answerC (.holdLift 5) (s.withJournal { s.journal with counter := 4096 })] =
    [no .badMatter, no .noMatter, done .ok, no .journalBacklog, no .journalFull] := by decide +kernel

/-- R117. -/
theorem test_extend_codes :
    [answerC (.extend 2 1 false 1) reading, answerC (.extend 1 1 false 1) reading,
      answerC (.extend 1 1 false 1) (reading.withJournal { reading.journal with counter := 4088 }),
      answerC (.extend 1 1 false 1) (filled 56 reading)] =
    [no .badRange, done .ok, no .journalFull, no .journalBacklog] := by decide +kernel

/-- R118: commit day 100 and one day of class give day 101; 40,000 days count as 36,500, 0 days as 1, and the forever form
gives 65,535. -/
theorem test_extend_floors :
    [(false, 40000), (false, 0), (true, 7)].map (fun p =>
      ((after (.extend (written (.extend 1 1 p.1 p.2))) reading).extent 1).bind (·.floor)) =
    [some 36601, some 102, some 65535] := by decide +kernel

/-- R110 to R112. -/
theorem test_class_set_codes :
    [answerC (.classSet 16 true false 0 1) base, answerC (.classSet 15 true false 2 1) base,
      answerC (.classSet 4 true false 0 0) base, answerC (.classSet 4 false false 0 1) base,
      answerC (.classSet 4 true true 1 1) base, answerC (.classSet 15 true false 1 40000) base,
      answerC (.classSet 4 true false 0 1) (base.withJournal { base.journal with counter := 4088 }),
      answerC (.classSet 4 true false 0 1) (filled 56 base)] =
    [no .badClass, no .badClass, no .classShorten, no .classShorten, done .ok, done .ok, no .journalFull,
      no .journalBacklog] := by decide +kernel

/-- R113. -/
theorem test_policy_fix_codes :
    let s := base.withClasses { base.classes with fixed := false }
    [answerC .policyFix base, answerC .policyFix s, answerC .policyFix (s.withClasses State.reset.classes),
      answerC .policyFix (s.withJournal { s.journal with counter := 4088 }), answerC .policyFix (filled 56 s)] =
    [no .alreadyFixed, done .ok, no .noClasses, no .journalFull, no .journalBacklog] := by decide +kernel

/-- R101: an offset of 86,400 seconds backwards is accepted, one more is not. -/
theorem test_adopt_codes :
    let s := base.withClock { base.clock with state := .drift, farMark := some ⟨17193600, 17280000⟩ }
    [answerC .adopt base, answerC .adopt s,
      answerC .adopt (s.withClock { s.clock with farMark := some ⟨17193599, 17280000⟩ }),
      answerC .adopt (filled 56 s), answerC .adopt (s.withJournal { s.journal with counter := 4096 })] =
    [no .clockNotDrift, done .ok, no .stepRange, no .journalBacklog, no .journalFull] := by decide +kernel

/-- R102: forward the clock steps at once, backward it is held back. -/
theorem test_adopt_steps :
    [17290000, 17270000].map (fun r =>
      let c := (after (.adopt (written .adopt)) (base.withClock
        { base.clock with state := .drift, farMark := some ⟨r, 17280000⟩ })).clock
      (c.seconds, c.retard, c.state)) = [(17290000, 0, .locked), (17280000, 10000, .locked)] := by decide +kernel

/-- R30. -/
theorem test_split_codes :
    [answerC (.split 4) base, answerC (.split 2) base,
      answerC (.split 2) (base.withStoreMap ⟨0, 0, [store0], some ⟨2, 0, 1⟩⟩),
      answerC (.split 2) (base.withStoreMap ⟨0, 0, [{ store0 with frontier := 5905 }], none⟩),
      answerC (.split 2) (base.withStoreMap ⟨0, 0, [{ store0 with frontier := 5904 }], none⟩),
      answerC (.split 8) (base.withStoreMap ⟨0, 0, List.replicate 4 store0, none⟩),
      answerC (.split 2) (base.withJournal { base.journal with counter := 4088 }),
      answerC (.split 2) (base.withCport { base.cport with slots := List.replicate 2 (.running held .split) })] =
    [no .splitShape, taken, no .storeBusy, no .tooSmall, taken, no .splitShape, no .journalFull, no .slotsFull] := by
  decide +kernel

/-- R162. -/
theorem test_journal_read_codes :
    let s := base.withJournal { base.journal with nextSeq := 40, counter := 1, pageList := [.written 1 32] }
    [answerC (.journalRead 0) s, answerC (.journalRead 40) s, answerC (.journalRead 39) s,
      answerC (.journalRead 1) (filled 1 s),
      answerC (.journalRead 1) (s.withCport { s.cport with slots := List.replicate 2 (.running held .split) })] =
    [done .notFound, done .notFound, taken, done .ok, no .slotsFull] := by decide +kernel

/-- R166 and R177: STARTING before the kind, ROLE before the tag, the tag before the fragments. -/
theorem test_early_refusals :
    [answerC (.query 1) (base.withPhase .startup), answerC (.time 1) base, answerA .adopt [] base,
      answerC .adopt (base.withCport { base.cport with role := .examiner }),
      answerA (.read 1 0 1) [] (running (.close 5) (reading.withLinkA { reading.linkA with
        slots := [.running ⟨7, []⟩ (.close 5)] })),
      answerA (.query 1) (frag 1) reading] =
    [no .starting, no .role, no .role, no .role, no .fragmentShape, no .fragmentShape] := by decide +kernel

/-! ### Power, links and CPORT -/

/-- R184, R163, R185: a blank part powered on and its START record, after which capsules are taken. -/
theorem test_power_on_and_start :
    let s := after (.powerOn ⟨[], 100000⟩) State.reset
    let t := after .start s
    (s.phase, s.marker, s.journal.waits, s.storeMap.stores.map (fun st => (st.base, st.limit))) =
        (.startup, true, [.start], [(4096, 100000)]) ∧
      (t.phase, t.journal.buffer.map (fun e => e.record.subject.kind)) = (.running, [14]) := by decide +kernel

/-- R183: entries below and above their ranges are brought to the nearer end. -/
theorem test_image_clamps :
    let l := loadImage false (le 4 3 ++ le 4 9 ++ le 4 5 ++ le 4 601 ++ le 4 1 ++ le 4 0x78 ++ le 4 99 ++ le 4 0)
    (l.settings.openTimeout, l.settings.partialTime, l.settings.cportAddr, l.settings.skipped) = (10, 600, 0x77, 1) := by
  decide +kernel

/-- R22, R185: table memory outlives a power loss and a reset; READs and slots do not. -/
theorem test_resets :
    [Instr.powerLoss, .resetNAssert].map (fun i =>
      let t := after i (running (.close 1) (writing.addReader 1))
      (t.phase, t.et.next, t.readers, t.linkA.up, t.clock.seconds, t.clock.tick)) =
    [(.off, 2, [], false, 17280000, 0), (.held, 2, [], false, 17280000, 0)] := by decide +kernel

/-- R10, R163: after a reset an extent left OPEN waits to be voided, before the START record. -/
theorem test_recovery :
    let s := after (.resetNRelease ⟨[], 0⟩) (after .resetNAssert writing)
    let t := after .recoveryVoid s
    (s.journal.waits, (t.extent 1).map (·.state), t.startup.voided, t.et.keys) =
    ([.recovery 1, .start], some .voided, 1, []) := by decide +kernel

/-- R173, R171. -/
theorem test_link_commands :
    let t := after (.linkReset .a) (running (.close 1) base)
    let u := after (.msiEnableWrite .a true) (after (.linkUp .a) t)
    (t.linkA.up, t.linkA.base, t.linkA.limit, t.slot ⟨.node .a, 0⟩, u.linkA.up, u.linkA.msiEnabled) =
    (false, 1, 0, some .free, true, true) := by decide +kernel

/-- R72: a link reset ends a READ in transfer, and how many of its bytes stand in node memory is a free value; without a
transfer the latch of the last one stays. -/
theorem test_link_reset_cuts_a_transfer :
    let s := running (.read ⟨1, 0, 1, [⟨512, 8⟩], List.replicate 8 3, some 98⟩) (reading.addReader 1)
    let t := after (.linkReset .a) s
    let u := after (.linkReset .a) (base.withLinkA { base.linkA with dmaOut := [(5, 6)] })
    (t.slot ⟨.node .a, 0⟩, t.readers, t.freeCount, u.linkA.dmaOut, u.freeCount) = (some .free, [], 8, [(5, 6)], 0) ∧
      t.linkA.dmaOut = ((List.range 8).map (fun k => (512 + k, (3 : Byte)))).take (Config.placedBytes 0) :=
  ⟨by decide +kernel, by
    show ((List.range 8).map (fun k => (512 + k, (3 : Byte)))).take (Config.placedBytes 0) ++ [] = _
    exact List.append_nil _⟩

/-- R165: any write sets the mark, one of no byte too. -/
theorem test_empty_window_write :
    let t := after (.capsuleWindowWrite .a 0 []) base
    (t.linkA.window = base.linkA.window, t.linkA.mark) = (True, true) := by
  simp only [Prod.mk.injEq, eq_iff_iff, iff_true]
  decide +kernel

/-- R165: a write to the last byte of the window, and one past it. -/
theorem test_window_edge :
    let t := after (.capsuleWindowWrite .a 511 [0xAB]) base
    (t.linkA.window[511]?, t.linkA.mark) = (some 0xAB, true) ∧
      (match exec (.capsuleWindowWrite .a 512 [0xAB]) base with
       | .fault f => some f
       | _ => none) = some .outsideWindow := by decide +kernel

/-- R165, R176: reads that find nothing, and a receipt read twice. -/
theorem test_reads :
    let t := after (.holdList (written (.holdList 0))) base
    let u := after (.cportReceiptRead 0x52 4) t
    let v := after (.noCapsule (.cport 0x52 6)) u
    ((after (.noCapsule (.link .a)) base).linkA.receipt.map (·.code), u.cport.readOut, v.cport.readOut) =
    (some .noCapsule, [43, 0, 0x10, 7], [8, 0, 0, 0, 4, 7]) := by decide +kernel

/-- R175: a partial write hands nothing over; an unknown kind is refused. -/
theorem test_partial_and_unknown :
    (after (.cportPartialCapsule 0x52 [8, 0]) base).cport.last.isNone = true ∧
      ((after (.badKind (.write 0x52 [4, 0, 0x19, 1])) base).cport.last.map (·.receipt.code)) = some .badKind := by
  decide +kernel

/-- R178: the fourth high sample in a row changes the role in its own step, and a low one between starts again. -/
theorem test_role_change :
    let run (l : List Bool) := (l.foldl (fun s low => after (.cmodeSample low) s) base).cport
    [run [false, false, false], run [false, false, false, false], run [false, false, true, false, false],
      (after .roleChange base).cport].map (fun p => (p.count, p.role)) =
    [(3, .compliance), (0, .examiner), (2, .compliance), (0, .compliance)] := by decide +kernel

/-- R169: the same capsule is PENDING while its slot runs and is answered with the result once it has finished. -/
theorem test_held_tag :
    let s := after (.verify (written (.verify 1))) reading
    let t := s.endSlot ⟨.cport, 0⟩ ⟨.mismatch, []⟩
    [answerC (.verify 1) s, answerC (.verify 2) s, answerC (.verify 1) t] =
    [some (.pending, .ok), no .tagConflict, done .mismatch] := by decide +kernel

/-! ### Events at a tick, from node memory and from the array -/

/-- R98 to R100: a normal tick, one at double rate, and both halves of a retard. -/
theorem test_ticks :
    [base.clock, { base.clock with advance := 1 }, { base.clock with retard := 1 },
      { base.clock with retard := 1, skip := true }, { base.clock with seconds := 4294967295 }].map (fun c =>
        let k := (after .tick (base.withClock c)).clock
        (k.seconds - c.seconds, k.advance, k.retard, k.skip)) =
    [(1, 0, 0, false), (2, 0, 0, false), (1, 0, 1, true), (0, 0, 0, false), (0, 0, 0, false)] := by decide +kernel

/-- R100, R103: LOCKED becomes HOLDOVER at the holdover time, with its record. -/
theorem test_holdover :
    let at_ (n : Nat) := after .holdover (base.withClock { base.clock with holdover := n })
    ((at_ 899).clock.state, (at_ 900).clock.state, (at_ 900).journal.buffer.map (fun e => e.record.subject.kind)) =
    (.locked, .holdover, [12]) := by decide +kernel

/-- R100: the tick that brings the holdover counter to the holdover time makes the change in its own step. -/
theorem test_holdover_at_its_tick :
    [898, 899].map (fun n =>
      let t := after .tick (base.withClock { base.clock with holdover := n })
      (t.clock.holdover, t.clock.state, t.journal.buffer.length)) =
    [(899, .locked, 0), (900, .holdover, 1)] := by decide +kernel

/-- R38, R54, R155: quiet for 119 ticks the timer runs; at 120 the extent is voided in the step, a place being free; with
all places occupied the timer is DUE and the request waits. -/
theorem test_open_timeout :
    let at_ (n : Nat) (s : State) := after (.openTimeoutDue 0) (s.withClock { s.clock with tick := n })
    let t := at_ 210 writing
    let u := at_ 210 (filled 64 writing)
    (((at_ 209 writing).unit 0).timer, (t.extent 1).bind (·.voidCause), t.pendingSet (.node .a)) =
        (.running, some .timeout, [.openTimeout]) ∧
      ((u.unit 0).timer, u.journal.waits, (u.extent 1).map (·.state)) =
        (.due, [.openTimeout 0], some .opened) := by decide +kernel

/-- R33: a split pending for 599 ticks stays, for 600 it times out. -/
theorem test_split_timeout :
    [599, 600].map (fun n => (after .splitTimeout ((base.withStoreMap
      ⟨0, 0, [{ store0 with state := .splitting }], some ⟨2, 100, 0⟩⟩).withClock
        { base.clock with tick := 100 + n })).storeMap.stores.map (·.state)) = [[.splitting], [.active]] := by
  decide +kernel

/-- R32: the boundary of a store of 10,000 free blocks lies 4,992 blocks in. -/
theorem test_split_apply :
    (after .splitApply (waiting .splitDone (base.withStoreMap
      ⟨0, 0, [{ store0 with state := .splitting }], some ⟨2, 100, 0⟩⟩))).storeMap.stores.map
        (fun st => (st.base, st.limit, st.frontier, st.state)) =
    [(4096, 9088, 4096, .active), (9088, 14096, 9088, .active)] := by decide +kernel

/-- R45: the fetch of one block makes the area HELD, and its PROGRAM is issued at the frontier. -/
theorem test_fetch_complete :
    let s := running (.append ⟨1, 1, frag 1, some 99⟩) (withExts [{ openExt 1 with inFlight := some .append }] writing)
    let t := after (.fetchComplete .a 0 [List.replicate 4096 1]) s
    (t.media.channel.map (fun f => (f.op.first, f.op.count)), t.storeMap.stores.map (·.frontier)) =
    (some (4096, 1), [4097]) := by decide +kernel

/-- R44, R172: a failed fetch, and a request unanswered at the second tick. -/
theorem test_fetch_fails :
    let s := running (.append ⟨1, 1, frag 1, some 98⟩) (withExts [{ openExt 1 with inFlight := some .append }] writing)
    let t := after (.fetchFailed .a 0) s
    ((t.extent 1).bind (·.inFlight), t.pendingSet (.node .a), after (.dmaReadTimeout .a 0 98) s = t,
      after (.dmaReadTimeout .a 0 99) s = s) = (some .nothing, [.fetchFault, .completion], True, True) := by
  simp only [Prod.mk.injEq, eq_iff_iff, iff_true]
  decide +kernel

/-- R46, R47, R50, R52: the programs of extent 1. -/
theorem test_programs :
    let a := busy (.append 0) 2 (withExts [{ openExt 1 with inFlight := some .append }] writing)
    let c := busy (.trailer 0) 1 (withExts [{ openExt 1 with state := .closing, inFlight := some .close }] writing)
    ((after .appendProgramOk a).extent 1).map (·.count) = some 5 ∧
      (after .appendProgramMediaError (filled 64 a)).journal.waits = [.mediaFault 0] ∧
      ((after .trailerOk c).extent 1).map (fun r => (r.state, r.commitSecond)) = some (.committed, some 17280000) ∧
      ((after .trailerMediaError c).extent 1).bind (·.voidCause) = some .mediaFault := by
  decide +kernel

/-- R66, R67: the FETCH of a READ of one block begins its transfer or ends it; a transfer of 16 bytes in two fragments. -/
theorem test_read_ends :
    let s := busy (.read ⟨.node .a, 0⟩) 1 (running (.read ⟨1, 0, 1, frag 1, [], none⟩) (reading.addReader 1))
    let t := running (.read ⟨1, 0, 1, [⟨512, 8⟩, ⟨1024, 8⟩], List.replicate 8 3 ++ List.replicate 8 4, some 98⟩)
      (reading.addReader 1)
    ((after (.readFetchOk (List.replicate 4096 3)) s).media.channel.isNone, (after .readFetchMediaError s).readers,
      (after (.readDmaComplete .a 0) t).linkA.dmaOut[9]?, (after (.readDmaFailed .a 0 5) t).linkA.dmaOut.length,
      (after (.readDmaComplete .a 0) t).readers) = (true, [], some (1025, 4), 5, []) := by
  decide +kernel

/-- R69, R71: the first of two runs of a VERIFY places the second; a run with MEDIA_ERROR makes the extent DAMAGED. -/
theorem test_verify_ends :
    let s := busy (.verify ⟨.node .a, 0⟩) 1 (running (.verify ⟨1, crcInitial, 0, 0, none⟩) (reading.addReader 1))
    let t := after .verifyFetchMediaError s
    (after (.verifyFetchOk (List.replicate 4096 0)) s).media.channel.map (fun f => (f.op.first, f.op.count)) =
        some (4097, 2) ∧
      ((t.extent 1).bind (·.integrity), t.readers, t.pendingSet .cport) = (some .damaged, [], [.integrity]) := by
  decide +kernel

/-- R75: an answer is waited for to the 60th tick after the issue. -/
theorem test_media_answer_limit :
    let s (n : Nat) := (busy (.append 0) 2 writing).withClock { base.clock with tick := n }
    ((after .mediaAnswerLimit (s 154)).media.channel.isSome, (after .mediaAnswerLimit (s 155)).media.channel.isSome,
      (after .appendProgramOk (s 155)).media.channel.isSome) = (true, false, true) := by decide +kernel

/-- R142, R143: an expired head without readers is placed; with a reader it waits; held it returns to COMMITTED. -/
theorem test_head_take :
    let s := scrubbing .queued 0 .idle
    let h := s.withHolds ⟨[⟨5, 0, ⟨none, none, none⟩, 0⟩], 1⟩
    ((after .headTake s).engine.stage, (after .headTake (s.addReader 1)).engine.stage,
      ((after .headTake h).extent 1).map (·.state), (after .headTake h).engine.queue,
      (after .readersDrained (scrubbing .scrubNext 0 .readers)).engine.stage) =
    (.scrubbing, .readers, some .committed, [], .scrubbing) := by decide +kernel

/-- R145, R146, R155: a SCRUB with OK releases the head in its own step while a place is free, and at the place otherwise;
with its third MEDIA_ERROR the head fails. -/
theorem test_scrub_ends :
    let s (n : Nat) := busy (.scrub 1) 4 (scrubbing .scrubbing n .scrubbing)
    let t := after .scrubCompleteOk (s 0)
    let w := after .scrubCompleteOk (filled 64 (s 0))
    let u := after .scrubMediaError (s 2)
    ((t.extent 1).map (·.state), t.engine.queue, (w.extent 1).map (·.state), w.journal.waits) =
        (some .released, [], some .disposing, [.disposed]) ∧
      ((u.extent 1).map (fun r => (r.state, r.attempts)), ((after .scrubMediaError (s 1)).extent 1).bind (·.attempts)) =
        (some (.disposalFailed, some 3), some 2) := by decide +kernel

/-- R130: a hold placed after the completion of a scrub whose place was free finds the extent RELEASED, and is not late. -/
theorem test_hold_after_the_scrub :
    let s := after .scrubCompleteOk (busy (.scrub 1) 4 (scrubbing .scrubbing 0 .scrubbing))
    let t := after (.holdPlace (written (.holdPlace 5 ⟨none, none, none⟩))) s
    (t.holds.list.map (·.late), t.pendingSet .cport) = ([0], []) := by decide +kernel

/-- R157, R158, R159: at the partial-page time the records go to page 0, which is then WRITTEN or FAULTED. -/
theorem test_page_writes :
    let s := (filled 3 base).withClock { base.clock with tick := 160 }
    let t := after .partialPageTime s
    ((after .partialPageTime (s.withClock { s.clock with tick := 159 })).journal.pageList, t.journal.pageList,
      (after .journalWriteOk t).journal.pageList, (after .journalWriteOk t).journal.buffer.length,
      (after .journalWriteMediaError t).journal.pageList, (after .journalWriteMediaError t).journal.counter) =
    ([], [.issued 1 3], [.written 1 3], 0, [.faulted, .issued 1 3], 1) := by decide +kernel

/-- R157: the tick at which the oldest record has waited the partial-page time places the page write. -/
theorem test_tick_writes_the_page :
    [158, 159].map (fun n => (after .tick ((filled 3 base).withClock { base.clock with tick := n })).journal.pageList) =
    [[], [.issued 1 3]] := by decide +kernel

/-- R155: the place that a page write frees goes to the mark first, then to the requests in the order of their waiting. -/
theorem test_freed_places :
    let s := waiting (.integrity ⟨.node .a, 0⟩) (running (.verify ⟨1, 0, 0, 0, some (.mismatch 7)⟩) reading)
    let u := ((filled 64 (s.withJournal { s.journal with mark := some ⟨.drift, 3⟩ })))
    let t := after .journalWriteOk (busy (.journalWrite 0) 1 (u.withJournal { u.journal with
      pageList := [.issued 1 32] }))
    ((t.journal.buffer.drop 32).map (fun e => e.record.subject.kind), t.journal.mark, t.journal.waits) =
    ([12, 4], none, []) := by decide +kernel

/-- R162: the record of sequence 2 of a page that begins at 1 is its second 128 bytes. -/
theorem test_journal_fetch :
    let s := (busy (.journalRead ⟨.cport, 0⟩) 1 (base.withJournal { base.journal with
      nextSeq := 40, counter := 1, pageList := [.written 1 32] })).setSlot ⟨.cport, 0⟩ (.running held (.journalRead 2 0))
    let t := after (.journalReadFetchDone (some (List.replicate 128 0 ++ List.replicate 3968 9))) s
    t.slot ⟨.cport, 0⟩ = some (.finished held ⟨.ok, [0, 0, 0, 0] ++ List.replicate 128 9⟩) ∧
      t.cport.pageBuffers.map (·.length) = [4096, 0] ∧
      (after (.journalRead (.write 0x52 ([12, 0, 0x18, 9] ++ le 8 2))) t).cport.pageBuffers.length = 2 := by decide +kernel

/-- R177: the page buffer goes with its slot when the stored result is collected. -/
theorem test_page_buffer_goes :
    let s := (base.withCport { base.cport with pageBuffers := [List.replicate 4096 9, [1]] }).setSlot ⟨.cport, 0⟩
      (.finished ⟨7, capsuleBytes (.journalRead 2) 7 []⟩ ⟨.ok, []⟩)
    let t := after (.journalRead (written (.journalRead 2))) s
    (t.slot ⟨.cport, 0⟩, t.cport.pageBuffers, t.cport.last.map (·.receipt.disposition)) =
    (some .free, [[], [1]], some .done) := by decide +kernel

/-- R156: the mark is given up for one record. -/
theorem test_coalesced :
    let t := after .coalescedClockState (base.withJournal { base.journal with mark := some ⟨.drift, 3⟩ })
    (t.journal.mark, t.journal.buffer.map (fun e => e.record.subject)) = (none, [.clockState .drift .locked 3]) := by
  decide +kernel

/-! ### Witnesses: for each statement with hypotheses, a concrete state and operands that meet them all -/

theorem witness_StepRunsTheFrontCommand :
    base.pending = [] ∧ (base.withPending [.tick, .start]).pending = .tick :: [.start] := by decide +kernel

theorem witness_CommandsLeaveTheQueue : ∃ t, exec .tick (base.withPending [.start]) = .next t := ⟨_, rfl⟩

theorem witness_ResetAndPowerLossKeepTableMemory :
    ((Instr.resetNAssert = .resetNAssert ∧ base.live = true ∧ Phase.held = .held) ∨
      (Instr.resetNAssert = .powerLoss ∧ Phase.held = .off)) ∧
    ((Instr.powerLoss = .resetNAssert ∧ base.live = true ∧ Phase.off = .held) ∨
      (Instr.powerLoss = .powerLoss ∧ Phase.off = .off)) := by decide +kernel

theorem witness_StartUpRecoversTables :
    writing.marker = true ∧ (writing.withPhase .off).phase = .off ∧ (writing.withPhase .held).phase = .held := by
  decide +kernel

theorem witness_BlankPartInitializesItself :
    State.reset.marker = false ∧ State.reset.phase = .off ∧ (State.reset.withPhase .held).phase = .held ∧
      (4096 ≤ min 100000 4294967296) ∧
      (let l := loadImage false (le 4 16 ++ le 4 90000 ++ le 4 17 ++ le 4 20000)
       ¬(l.journalBase + l.journalPages ≤ min 100000 4294967296)) ∧
      (min 4095 4294967296 < (loadImage false []).journalBase + (loadImage false []).journalPages ∧ 4095 < 4096) := by
  decide +kernel

/-- Each setting just outside and just inside its range. -/
theorem witness_ImageEntriesAreClamped :
    (3 < 4294967296 ∧ 9 < 4294967296 ∧ ¬(3 = 4294967295 ∧ 9 = 4294967295)) ∧
      [(2, 1), (2, 2), (2, 15), (2, 16)].map (fun p => (loadImage true (le 4 p.1 ++ le 4 p.2)).settings.cmodeN) =
        [2, 2, 15, 15] ∧
      [(7, 1), (7, 2), (7, 10), (7, 11), (20, 15), (20, 16), (8, 0)].map (fun p =>
        (loadImage false (le 4 p.1 ++ le 4 p.2)).settings.skipped) = [1, 0, 0, 1, 0, 1, 1] ∧
      (let es : List (Nat × Nat) := [(3, 60), (9, 0), (3, 70)]
       (∀ e ∈ es, 0 < e.1 ∧ e.1 < 4294967296 ∧ e.2 < 4294967296) ∧ es ≠ [] ∧
        es.head? ≠ some (4294967295, 4294967295) ∧ ([1, 2, 3, 4, 5, 6, 7] : List Byte).length < 8 ∧
        (loadImage true ((es.map (fun e => le 4 e.1 ++ le 4 e.2)).flatten ++ [1, 2, 3])).settings.openTimeout = 70) ∧
      (∀ e ∈ List.replicate 4096 (2, 5), 0 < e.1 ∧ e.1 < 4294967296 ∧ e.2 < 4294967296) ∧
      4096 ≤ (List.replicate 4096 (2, 5)).length := by
  refine ⟨by decide +kernel, by decide +kernel, by decide +kernel, by decide +kernel, ?_, Nat.le_of_eq List.length_replicate.symm⟩
  intro e he
  obtain rfl := List.eq_of_mem_replicate he
  decide

theorem witness_StartUpVoidsThenRecordsStart :
    (let s := writing.withJournal { writing.journal with waits := [.recovery 1, .start] }
     s.journal.waits = .recovery 1 :: [.start] ∧ s.journal.grantable (.recovery 1) = true ∧
      s.extent 1 = some (openExt 1)) ∧
    (let s := (waiting .start base).withPhase .startup
     s.phase = .startup ∧ s.journal.waits = .start :: [] ∧ s.journal.grantable .start = true ∧
      ∃ t, exec .start s = .next t) ∧
    (waiting .start (filled 64 (base.withJournal { base.journal with counter := 4096 }))).journal.grantable .start =
      true := ⟨by decide +kernel, ⟨by decide +kernel, by decide +kernel, by decide +kernel, _, rfl⟩, by decide +kernel⟩

theorem witness_LinkResetEmptiesTheLink :
    (base.live = true ∧ (base.link .a).slots.length = 8 ∧ base.slot ⟨.node .a, 7⟩ = some .free) ∧
      (let s := running (.read ⟨1, 0, 1, frag 1, [], some 98⟩) (reading.addReader 1)
       s.live = true ∧ (s.link .a).slots.length = 8 ∧ s.readerCount 1 = 1) := by decide +kernel

theorem witness_LinkResetFailsTheFetches :
    let s := running (.append ⟨1, 1, frag 1, some 99⟩) (withExts [{ openExt 1 with inFlight := some .append }] writing)
    s.live = true ∧ s.slot ⟨.node .a, 0⟩ = some (.running held (.append ⟨1, 1, frag 1, some 99⟩)) ∧
      s.extent 1 = some { openExt 1 with inFlight := some .append } ∧ (s.store 0).isSome = true ∧
      0 < s.write.length ∧ (after (.linkReset .a) s).linkA.up = false := by decide +kernel

theorem witness_LinkTrainingFlagAndWindow :
    base.live = true ∧ (base.link .a).up = true ∧ (base.link .a).window.length = 512 ∧
      (511 < 512 ∧ 511 + [(1 : Byte)].length ≤ 512) ∧ (511 < 512 ∧ 511 + ([] : List Byte).length ≤ 512) ∧
      512 ≤ 512 ∧ 512 < 511 + [(1 : Byte), 2].length := by decide +kernel

theorem witness_ReadsFindTheirReceipt :
    base.live = true ∧ (base.link .a).up = true ∧ (base.link .a).mark = false ∧ base.cport.last.isNone = true ∧
      ((after (.holdList (written (.holdList 0))) base).cport.last.any (fun l => !l.isRead)) = true ∧ 0 < 1 := by
  decide +kernel

theorem witness_PartialWritesAreDiscarded :
    (([8, 0, 3] : List Byte).length < 4) ∧
      (field 0 2 ([8, 0, 3, 1] : List Byte) ≤ 128 ∧ ([8, 0, 3, 1] : List Byte).length < field 0 2 ([8, 0, 3, 1] : List Byte)) ∧
      (base.live = true ∧ (0x52 : BitVec 7) = base.settings.cportAddr ∧ 4 ≤ ([4, 0, 0x14, 1] : List Byte).length ∧
        (128 < field 0 2 ([129, 0, 0x14, 1] : List Byte) ∨ field 0 2 ([4, 0, 0x14, 1] : List Byte) ≤ 4)) := by
  decide +kernel

theorem witness_EarlyRefusalsComeInOrder :
    base.received (.write 0x52 [4, 0, 0x19, 1]) = some ⟨.cport, [4, 0, 0x19, 1]⟩ ∧
      (⟨.cport, [4, 0, 0x19, 1]⟩ : Capsule).shape = none ∧
      (base.withPhase .startup).received (written (.query 1)) = some (ofC (.query 1)) ∧
      (ofC (.query 1)).shape = some (.query, 0) ∧ (base.withPhase .startup).taking = false := by decide +kernel

theorem witness_RolesDecideWhichKindsAreTaken :
    base.received (written (.time 1)) = some (ofC (.time 1)) ∧ (ofC (.time 1)).shape = some (.time, 0) ∧
      base.taking = true ∧ Kind.time.takenFrom .cport base.cport.role = false := by decide +kernel

theorem witness_HeldTagsAreAnsweredBySlot :
    let s := after (.verify (written (.verify 1))) reading
    s.received (written (.verify 1)) = some (ofC (.verify 1)) ∧ (ofC (.verify 1)).shape = some (.verify, 0) ∧
      s.taking = true ∧ Kind.verify.takenFrom .cport s.cport.role = true ∧ s.tagSlot .cport 7 = some 0 := by
  decide +kernel

/-- Orders 1 to 5 of R170 at their boundaries. -/
theorem witness_FragmentListsAreChecked :
    (let s := loaded (.read 1 0 1) [] reading
     s.received (.read .a) = some (ofA (.read 1 0 1) []) ∧ (ofA (.read 1 0 1) []).shape = some (.read, 0) ∧
      s.taking = true ∧ Kind.read.takenFrom (.node .a) s.cport.role = true ∧ s.tagSlot (.node .a) 7 = none ∧
      s.fragmentCheck (.node .a) (.read 1 0 1) [] = some .fragmentShape) ∧
    [base.fragmentCheck (.node .a) (.close 1) (frag 1), base.fragmentCheck (.node .b) (.read 1 0 1) (frag 1),
      base.fragmentCheck (.node .a) (.read 1 0 1) [⟨65537, 4096⟩],
      base.fragmentCheck (.node .a) (.read 1 0 33) [⟨65536, 131584⟩],
      base.fragmentCheck (.node .a) (.read 1 0 32) [⟨65536, 131072⟩],
      base.fragmentCheck (.node .a) (.read 1 0 1) [⟨65536, 512⟩],
      base.fragmentCheck (.node .a) (.read 1 0 33) [⟨65536, 512⟩],
      base.fragmentCheck (.node .a) (.read 1 0 1) [⟨65024, 4096⟩],
      base.fragmentCheck (.node .a) (.read 1 0 1) [⟨323584, 4096⟩],
      base.fragmentCheck (.node .a) (.read 1 0 1) [⟨324096, 4096⟩]] =
    [some .fragmentShape, some .windowClosed, some .fragmentShape, some .fragmentShape, none, some .fragmentShape, none,
      some .fragmentRange, none, some .fragmentRange] := by decide +kernel

theorem witness_CapsuleBytesRoundTrip :
    (Req.append 1 2).fits = true ∧ (List.replicate 16 (⟨2 ^ 64 - 1, 2 ^ 32 - 1⟩ : Fragment)).length ≤ 16 ∧
      (∀ f ∈ List.replicate 16 (⟨2 ^ 64 - 1, 2 ^ 32 - 1⟩ : Fragment), f.addr < 2 ^ 64 ∧ f.len < 2 ^ 32) := by
  decide +kernel

theorem witness_WindowEventsAndRoute :
    Reaches (loaded (.window 1 (2 ^ 48 - 1)) [] base) (.read .a) (ofA (.window 1 (2 ^ 48 - 1)) [])
        (.window 1 (2 ^ 48 - 1)) [] ∧
      (base.live = true ∧ ∃ t, exec (.linkReset .a) base = .next t) ∧
      Reaches base (written .events) (ofC .events) .events [] ∧
      Reaches base (written (.route 10 ⟨true, false, true⟩)) (ofC (.route 10 ⟨true, false, true⟩))
        (.route 10 ⟨true, false, true⟩) [] :=
  ⟨reaches_of (by decide +kernel), ⟨by decide +kernel, _, rfl⟩, reaches_of (by decide +kernel),
    reaches_of (by decide +kernel)⟩

theorem witness_CmodeSamplesDecideTheRole :
    base.live = true ∧ base.cport.count < base.settings.cmodeN ∧
      (let s := base.withCport { base.cport with count := 4 }
       s.live = true ∧ s.settings.cmodeN ≤ s.cport.count) := by decide +kernel

theorem witness_RecordsAreChained :
    (filled 63 base).journal.buffer.length < 64 ∧ 64 ≤ (filled 64 base).journal.buffer.length := by decide +kernel

theorem witness_SlotsFinishAndReadersAreCounted :
    (running (.close 1) base).slot ⟨.node .a, 0⟩ = some (.running held (.close 1)) ∧
      (base.setSlot ⟨.cport, 1⟩ (.detached (.close 1))).slot ⟨.cport, 1⟩ = some (.detached (.close 1)) ∧
      base.slot ⟨.cport, 1⟩ = some .free := by decide +kernel

theorem witness_VoidedExtentLosesKeyAndStore :
    writing.extent (openExt 1).number = some (openExt 1) ∧ (openExt 1).state = .opened ∧ writing.storeMap.split = none ∧
      (doneExt 1).state ≠ .opened ∧ (doneExt 1).state ≠ .closing := by decide +kernel

/-- The operations of the three ranks. -/
theorem witness_GrantsFollowRankAndTurn :
    let page : MediaOp := ⟨.journalWrite 0, none, 0, 1⟩
    let b : MediaOp := ⟨.read ⟨.node .b, 0⟩, some (.node .b), 0, 1⟩
    let scrub : MediaOp := ⟨.scrub 1, none, 0, 1⟩
    let m : Media := ⟨none, [scrub, b], [.node .a, .node .b, .cport]⟩
    (busy (.read ⟨.node .b, 0⟩) 1 base).media.channel.isSome = true ∧ base.media.channel.isNone = true ∧
      base.media.waiting = [] ∧
      ((⟨none, [scrub, page], []⟩ : Media).waiting.find? (·.isPage) = some page) ∧
      (m.waiting.find? (·.isPage)).isNone = true ∧ m.turn = [.node .a] ++ .node .b :: [.cport] ∧
      (∀ y ∈ m.waiting, y.origin ≠ some (.node .a)) ∧
      m.waiting.find? (fun y => y.origin == some (.node .b)) = some b ∧
      (∀ y ∈ [scrub], y.origin = none) ∧ m.choose .rotating = some b ∧ base.media.choose .rotating = none ∧
      page.origin = none := by decide +kernel

theorem witness_ProgramIssueMovesTheFrontier :
    let st := { store0 with state := .splitting, frontier := 5903 }
    let s := (base.withStoreMap ⟨4096, 10000, [st], some ⟨2, 100, 0⟩⟩).setSlot ⟨.cport, 0⟩ (.running held .split)
    writing.store 0 = some { store0 with openExtent := some 1 } ∧
      (⟨.append 0, some (.node .a), 4096, 2⟩ : MediaOp).requester = .append 0 ∧
      (⟨.trailer 0, some (.node .a), 4096, 1⟩ : MediaOp).requester = .trailer 0 ∧
      (s.store 0 = some st ∧ st.frontier + 2 ≤ st.limit ∧ st.state = .splitting ∧
        st.limit - (st.frontier + 2) = 8191 ∧ s.storeMap.split = some ⟨2, 100, 0⟩ ∧
        s.slot ⟨.cport, 0⟩ = some (.running held .split)) ∧
      (14093 + 2 ≤ store0.limit ∧ store0.state ≠ .full ∧ store0.limit - (14093 + 2) < 2 ∧
        ((s.routeOf .storeFull).a && s.linkA.up) = true) ∧ store0.limit < 14095 + 2 := by decide +kernel

/-- Pages used one below, at and above the two marks: 3,840 and 4,088 of 4,096 pages. -/
theorem witness_PageIssueJudgesTheThresholds :
    (⟨.journalWrite 0, none, 0, 1⟩ : MediaOp).requester = .journalWrite 0 ∧
      base.journal.pageList.any (·.isIssued) = false ∧
      [3838, 3839, 4087].map (fun n => (base.withJournal { base.journal with counter := n }).journal.counter + 1) =
        [3839, 4096 - 4096 / 16, 4096 - 8] ∧
      ((⟨true, true, true⟩ : Route).a && base.linkA.up) = true ∧
      (let s := scrubbing .scrubNext 0 .placed
       s.engine.stage ≠ .scrubbing ∧ s.engine.stage ≠ .recording ∧ s.engine.queue.map (·.ext) = [1] ∧
        s.extent 1 = some (goneExt 1 .scrubNext 0) ∧ (goneExt 1 .scrubNext 0).state = .disposing ∧
        (goneExt 1 .scrubNext 0).sub ≠ some .scrubbing) ∧
      (let s := (withExts [goneExt 1 .scrubbing 0, goneExt 2 .queued 0] base).withEngine
         ⟨[⟨1, .device, none⟩, ⟨2, .device, none⟩], .recording⟩
       s.engine.stage = .recording ∧ s.extent 2 = some (goneExt 2 .queued 0) ∧
        (goneExt 2 .queued 0).state = .disposing ∧ (goneExt 2 .queued 0).sub ≠ some .scrubbing) := by decide +kernel

theorem full_table (n : Nat) :
    (List.replicate (n + 1) (tombExt 1 0)).length = n + 1 ∧
      (List.replicate (n + 1) (tombExt 1 0)).find? (Extent.evictable 1) = some (tombExt 1 0) := by
  have : Extent.evictable 1 (tombExt 1 0) = true := by decide +kernel
  exact ⟨List.length_replicate, by simp [List.replicate_succ, this]⟩

/-- R39, and a full table of 32,768 records whose first tombstone is on media. -/
theorem witness_OpenIsJudgedAndTaken :
    Reaches (loaded (.openExtent 0 4 12 90) [] base) (.read .a) (ofA (.openExtent 0 4 12 90) [])
        (.openExtent 0 4 12 90) [] ∧ (ofA (.openExtent 0 4 12 90) []).master = .node .a ∧
      (∀ e, (loaded (.openExtent 0 4 12 90) [] base).keyOwner 90 = some e →
        ((loaded (.openExtent 0 4 12 90) [] base).extent e).isSome = true) ∧
      ∃ l : List Extent, l.length = 32767 + 1 ∧ l.find? (Extent.evictable 1) = some (tombExt 1 0) := by
  refine ⟨reaches_of (by decide +kernel), rfl, ?_, _, full_table 32767⟩
  intro e h
  have : (loaded (.openExtent 0 4 12 90) [] base).keyOwner 90 = none := by decide +kernel
  simp [this] at h

theorem witness_WriteCommandsShareTheirChecks :
    Reaches (loaded (.close 1) [] writing) (.read .a) (ofA (.close 1) []) (.close 1) [] ∧
      Reaches writing (written (.abandon 1)) (ofC (.abandon 1)) (.abandon 1) [] ∧
      Reaches (loaded (.append 1 32) (frag 32) writing) (.read .a) (ofA (.append 1 32) (frag 32)) (.append 1 32)
        (frag 32) ∧ (1 ≠ 0 ∧ 1 < writing.et.next ∧ (base.withEt ⟨[], 2, []⟩).extent 1 = none) ∧
      writing.extent 1 = some (openExt 1) :=
  ⟨reaches_of (by decide +kernel), reaches_of (by decide +kernel), reaches_of (by decide +kernel), by decide +kernel,
    by decide +kernel⟩

theorem witness_AppendIsJudgedAndTaken :
    Reaches (loaded (.append 1 1) (frag 1) writing) (.read .a) (ofA (.append 1 1) (frag 1)) (.append 1 1) (frag 1) ∧
      Reaches (loaded (.append 1 33) (frag 32) writing) (.read .a) (ofA (.append 1 33) (frag 32)) (.append 1 33)
        (frag 32) ∧
      (1 < writing.et.next ∧ writing.extent 1 = some (openExt 1) ∧ (openExt 1).opener = .a ∧
        (openExt 1).state = .opened ∧ (openExt 1).inFlight = some .nothing ∧
        writing.store (openExt 1).store = some { store0 with openExtent := some 1 }) :=
  ⟨reaches_of (by decide +kernel), reaches_of (by decide +kernel), by decide +kernel⟩

theorem witness_FetchesEnd :
    let w : AppendWork := ⟨1, 1, frag 1, some 98⟩
    let s := running (.append w) writing
    s.slot ⟨.node .a, 0⟩ = some (.running held (.append w)) ∧ w.dma = some 98 ∧ s.extent w.ext = some (openExt 1) ∧
      s.store 0 = some { store0 with openExtent := some 1 } ∧
      [List.replicate 4096 (0 : Byte)].map (·.length) = w.fragments.map (·.len) ∧ 98 + 2 ≤ s.clock.tick ∧
      ¬(99 + 2 ≤ s.clock.tick) := by decide +kernel

theorem witness_AppendProgramsEnd :
    let s := (busy (.append 0) 2 writing).withWrite (base.write.set 0 ⟨.held [1], .idle⟩)
    s.answering = some ⟨.append 0, none, 4096, 2⟩ ∧ s.openRecord 0 = some (openExt 1) ∧
      s.write[0]? = some ⟨.held [1], .idle⟩ := by decide +kernel

theorem witness_CloseCommits :
    Reaches (loaded (.close 1) [] writing) (.read .a) (ofA (.close 1) []) (.close 1) [] ∧
      (1 < writing.et.next ∧ writing.extent 1 = some (openExt 1) ∧ (openExt 1).state = .opened ∧
        (openExt 1).inFlight = some .nothing ∧ (openExt 1).opener = .a ∧
        writing.store 0 = some { store0 with openExtent := some 1 }) ∧
      (let c := withExts [{ openExt 1 with state := .closing, inFlight := some .close }] writing
       (busy (.trailer 0) 1 c).answering = some ⟨.trailer 0, none, 4096, 1⟩ ∧
        (busy (.trailer 0) 1 c).openRecord 0 = some { openExt 1 with state := .closing, inFlight := some .close }) :=
  ⟨reaches_of (by decide +kernel), by decide +kernel, by decide +kernel⟩

theorem witness_ExtentsAreVoided :
    Reaches writing (written (.abandon 1)) (ofC (.abandon 1)) (.abandon 1) [] ∧
      (1 < writing.et.next ∧ writing.extent 1 = some (openExt 1) ∧ (ofC (.abandon 1)).master ≠ .node .b) ∧
      ((waiting (.mediaFault 0) writing).journal.grantable (.mediaFault 0) = true ∧
        (waiting (.openTimeout 0) writing).journal.grantable (.openTimeout 0) = true ∧
        (waiting (.mediaFault 0) writing).openRecord 0 = some (openExt 1)) ∧
      (openExt 1).lastActivity = some 90 ∧ writing.write[0]? = some ⟨.empty, .running⟩ :=
  ⟨reaches_of (by decide +kernel), by decide +kernel, by decide +kernel, by decide +kernel⟩

theorem witness_ReadIsTakenAndFetched :
    Reaches (loaded (.read 1 0 32) (frag 32) reading) (.read .a) (ofA (.read 1 0 32) (frag 32)) (.read 1 0 32)
        (frag 32) ∧
      (let w : ReadWork := ⟨1, 0, 1, frag 1, [], none⟩
       (busy (.read ⟨.node .a, 0⟩) 1 (running (.read w) reading)).answering =
          some ⟨.read ⟨.node .a, 0⟩, none, 4096, 1⟩ ∧
        (running (.read w) reading).slot ⟨.node .a, 0⟩ = some (.running held (.read w)) ∧
        (reading.setSlot ⟨.node .a, 0⟩ (.detached (.read w))).slot ⟨.node .a, 0⟩ = some (.detached (.read w)) ∧
        (List.replicate 4096 (0 : Byte)).length = 1 * 4096) :=
  ⟨reaches_of (by decide +kernel), by decide +kernel⟩

theorem witness_ReadTransfersEnd :
    let w : ReadWork := ⟨1, 0, 1, [⟨512, 2⟩, ⟨1024, 1⟩], [1, 2, 3], some 98⟩
    (running (.read w) reading).slot ⟨.node .a, 0⟩ = some (.running held (.read w)) ∧ w.dma = some 98 ∧
      (w.fragments.map (·.len)).sum = w.buffer.length := by decide +kernel

theorem witness_VerifyRunsToItsEnd :
    Reaches reading (written (.verify 1)) (ofC (.verify 1)) (.verify 1) [] ∧
      (let w : VerifyWork := ⟨1, crcInitial, 0, 0, none⟩
       let s := busy (.verify ⟨.node .a, 0⟩) 3 (running (.verify w) reading)
       s.answering = some ⟨.verify ⟨.node .a, 0⟩, none, 4096, 3⟩ ∧ s.extent w.ext = some (doneExt 1) ∧
        s.slot ⟨.node .a, 0⟩ = some (.running held (.verify w))) ∧
      (List.replicate (3 * 4096) (0 : Byte)).length = 3 * 4096 :=
  ⟨reaches_of (by decide +kernel), by decide +kernel, List.length_replicate⟩

theorem witness_IntegrityIsRecorded :
    let w : VerifyWork := ⟨1, 0, 0, 0, some (.mismatch 7)⟩
    let s := waiting (.integrity ⟨.node .a, 0⟩) (running (.verify w) reading)
    s.journal.grantable (.integrity ⟨.node .a, 0⟩) = true ∧ s.verifyAt ⟨.node .a, 0⟩ = some w ∧
      w.damage = some (.mismatch 7) ∧ s.extent w.ext = some (doneExt 1) ∧
      s.journal.grantable (.mediaFault 0) = false ∧
      [PlaceRequest.integrity ⟨.node .a, 0⟩, .mediaFault 0, .openTimeout 0, .disposed, .disposalFailed, .splitDone, .start].all
        (fun r => !base.journal.grantable r) = true ∧ base.journal.waits = [] := by decide +kernel

theorem witness_MediaAnswersAreWaitedFor :
    (busy (.append 0) 2 writing).media.channel = some ⟨⟨.append 0, none, 4096, 2⟩, 95⟩ ∧
      (∀ f, base.media.channel = some f → f.issued + 60 ≤ base.clock.tick) ∧
      (let s := (busy (.append 0) 2 writing).withClock { base.clock with tick := 155 }
       ∀ f, s.media.channel = some f → f.issued + 60 ≤ s.clock.tick) := by
  refine ⟨by decide +kernel, ?_, ?_⟩
  · intro f h
    have e : base.media.channel = none := by decide +kernel
    simp [e] at h
  · intro s f h
    have e : s.media.channel = some ⟨⟨.append 0, none, 4096, 2⟩, 95⟩ := by decide +kernel
    have k : s.clock.tick = 155 := by decide +kernel
    rw [e] at h
    cases h
    simp [k]

theorem witness_TicksMoveTheClock :
    base.live = true ∧ base.clock.tick < 2 ^ 64 - 1 ∧
      2 ^ 64 - 1 ≤ (base.withClock { base.clock with tick := 2 ^ 64 - 1 }).clock.tick ∧
      (let s := base.withClock { base.clock with holdover := 899 }
       (∃ t, exec .tick s = .next t) ∧ s.clock.state = .locked ∧ s.settings.holdoverTime ≤ s.clock.holdover + 1) :=
  ⟨by decide +kernel, by decide +kernel, by decide +kernel, ⟨_, rfl⟩, by decide +kernel, by decide +kernel⟩

theorem witness_TimeMarksSteerTheClock :
    Reaches (loaded (.time 17280031) [] base) (.read .a) (ofA (.time 17280031) []) (.time 17280031) [] ∧
      (ofA (.time 17280031) []).master = .node .a := ⟨reaches_of (by decide +kernel), rfl⟩

theorem witness_AdoptActsOnTheFarMark : Reaches base (written .adopt) (ofC .adopt) .adopt [] :=
  reaches_of (by decide +kernel)

theorem witness_ClockChangesAreRecorded :
    base.clock.state = base.clock.state ∧ ({ base.clock with state := .drift } : Clock).state ≠ base.clock.state ∧
      (let s := base.withJournal { base.journal with mark := some ⟨.drift, 3⟩ }
       s.live = true ∧ s.journal.mark = some ⟨.drift, 3⟩ ∧ s.journal.buffer.length < 64) ∧ base.journal.mark = none ∧
      (64 ≤ (filled 64 base).journal.buffer.length ∧ (filled 64 base).journal.counter < base.journal.pages) := by
  decide +kernel

theorem witness_ClassesAreSetAndFixed :
    Reaches base (written (.classSet 15 true false 1 36501)) (ofC (.classSet 15 true false 1 36501))
        (.classSet 15 true false 1 36501) [] ∧
      Reaches base (written (.classGet 15)) (ofC (.classGet 15)) (.classGet 15) [] ∧
      Reaches base (written .policyFix) (ofC .policyFix) .policyFix [] :=
  ⟨reaches_of (by decide +kernel), reaches_of (by decide +kernel), reaches_of (by decide +kernel)⟩

theorem witness_ExtendRaisesFloors :
    Reaches reading (written (.extend 1 257 false 1)) (ofC (.extend 1 257 false 1)) (.extend 1 257 false 1) [] ∧
      Reaches reading (written (.extend 2 1 true 1)) (ofC (.extend 2 1 true 1)) (.extend 2 1 true 1) [] ∧
      (reading.journal.used < reading.journal.pages - 8 ∧ reading.journal.buffer.length < 56 ∧
        56 ≤ (filled 56 reading).journal.buffer.length ∧
        (let s := reading.withJournal { reading.journal with counter := 4088 }
         s.journal.pages - 8 ≤ s.journal.used)) :=
  ⟨reaches_of (by decide +kernel), reaches_of (by decide +kernel), by decide +kernel⟩

theorem witness_HoldsArePlacedLiftedListed :
    Reaches base (written (.holdPlace 5 ⟨some 12, none, none⟩)) (ofC (.holdPlace 5 ⟨some 12, none, none⟩))
        (.holdPlace 5 ⟨some 12, none, none⟩) [] ∧
      Reaches base (written (.holdLift 5)) (ofC (.holdLift 5)) (.holdLift 5) [] ∧
      Reaches base (written (.holdList 255)) (ofC (.holdList 255)) (.holdList 255) [] :=
  ⟨reaches_of (by decide +kernel), reaches_of (by decide +kernel), reaches_of (by decide +kernel)⟩

theorem witness_DisposeClassifies :
    Reaches reading (written (.dispose 1 257)) (ofC (.dispose 1 257)) (.dispose 1 257) [] ∧
      Reaches reading (written (.dispose 2 1)) (ofC (.dispose 2 1)) (.dispose 2 1) [] ∧
      (reading.journal.used < reading.journal.pages - 8 ∧ reading.engine.queue.length + 256 ≤ 1024 ∧
        1024 ≤ (List.replicate 1024 (⟨1, .device, none⟩ : QueueEntry)).length) ∧
      (let s := (withExts [doneExt 1, doneExt 2] base).withEngine ⟨List.replicate 1023 ⟨3, .device, none⟩, .idle⟩
       let t := after (.dispose (written (.dispose 1 2))) s
       (s.engine.queue.length + 0 < 1024 ∧ s.engine.queue.length + 1 = 1024) ∧
        ((doneExt 1).state = .committed ∧ s.expiry (doneExt 1) = 101 ∧ s.holds.list = []) ∧
        t.engine.queue.length = 1024 ∧ (t.extent 1).map (·.state) = some .disposing ∧
        (t.extent 2).map (·.state) = some .committed) :=
  ⟨reaches_of (by decide +kernel), reaches_of (by decide +kernel), by decide +kernel, by decide +kernel⟩

theorem witness_HeadsAreTaken :
    (let s := scrubbing .queued 0 .idle
     s.engine.queue = ⟨1, .master .cport, none⟩ :: [] ∧ s.extent 1 = some (goneExt 1 .queued 0) ∧
      (goneExt 1 .queued 0).state = .disposing ∧ s.taking = true ∧ s.engine.stage = .idle ∧
      (goneExt 1 .queued 0).sub = some .queued) ∧
    ((scrubbing .scrubNext 0 .readers).engine.stage = .readers ∧ (scrubbing .scrubNext 0 .readers).readerCount 1 = 0 ∧
      (goneExt 1 .scrubNext 0).sub ≠ some .scrubbing ∧
      0 < ((scrubbing .scrubNext 0 .readers).addReader 1).readerCount 1) ∧
    (running (.dispose ⟨1, 1, [0, 0, 0, 0, 0, 0, 0, 1], 1, 0, 0, 0⟩) base).slot ⟨.node .a, 0⟩ =
      some (.running held (.dispose ⟨1, 1, [0, 0, 0, 0, 0, 0, 0, 1], 1, 0, 0, 0⟩)) := by decide +kernel

theorem witness_ScrubsEnd :
    (let s := busy (.scrub 1) 4 (scrubbing .scrubbing 2 .scrubbing)
     s.answering = some ⟨.scrub 1, none, 4096, 4⟩ ∧ s.extent 1 = some (goneExt 1 .scrubbing 2) ∧
      (goneExt 1 .scrubbing 2).attempts = some 2 ∧ s.engine.queue = ⟨1, .master .cport, none⟩ :: []) ∧
    (waiting .disposed (scrubbing .scrubbing 0 .recording)).journal.grantable .disposed = true ∧
      (waiting .disposalFailed (scrubbing .scrubbing 2 .recording)).journal.grantable .disposalFailed = true := by
  decide +kernel

theorem witness_StoresAreSplit :
    Reaches base (written (.split 2)) (ofC (.split 2)) (.split 2) [] ∧
      (let s := waiting .splitDone (base.withStoreMap ⟨0, 0, [{ store0 with state := .splitting }], some ⟨2, 100, 0⟩⟩)
       s.storeMap.split = some ⟨2, 100, 0⟩ ∧ s.journal.grantable .splitDone = true) :=
  ⟨reaches_of (by decide +kernel), by decide +kernel⟩

theorem witness_ReportsChangeNothing :
    Reaches reading (written (.query 1)) (ofC (.query 1)) (.query 1) [] ∧
      Reaches reading (written (.find 71)) (ofC (.find 71)) (.find 71) [] ∧
      Reaches reading (written (.status 6)) (ofC (.status 6)) (.status 6) [] ∧
      Reaches reading (written (.status 7)) (ofC (.status 7)) (.status 7) [] ∧
      Reaches reading (written (.journalRead 39)) (ofC (.journalRead 39)) (.journalRead 39) [] ∧
      (let j : Journal := { base.journal with nextSeq := 40, counter := 1, pageList := [.written 1 32, .written 33 7] }
       39 < j.nextSeq ∧ j.pageList[1]? = some (.written 33 7) ∧ base.freeSlot .cport = some 0) ∧
      (let s := (busy (.journalRead ⟨.cport, 0⟩) 1 (base.withJournal { base.journal with
         pageList := [.written 1 32] })).setSlot ⟨.cport, 0⟩ (.running held (.journalRead 2 0))
       s.answering = some ⟨.journalRead ⟨.cport, 0⟩, none, 4096, 1⟩ ∧
        s.slot ⟨.cport, 0⟩ = some (.running held (.journalRead 2 0)) ∧
        s.journal.pageList[0]? = some (.written 1 32)) :=
  ⟨reaches_of (by decide +kernel), reaches_of (by decide +kernel), reaches_of (by decide +kernel),
    reaches_of (by decide +kernel), reaches_of (by decide +kernel), by decide +kernel, by decide +kernel⟩

theorem witness_PageWritesEnd :
    (let s := busy (.journalWrite 1) 1 (base.withJournal { base.journal with
       pageList := [.faulted] ++ [.issued 1 3], counter := 1 })
     s.answering = some ⟨.journalWrite 1, none, 4096, 1⟩ ∧ s.journal.pageList = [.faulted] ++ [.issued 1 3] ∧
      (∀ e ∈ [PageEntry.faulted], e.isIssued = false)) ∧
    base.live = true ∧ (filled 1 base).journal.buffer ≠ [] := by decide +kernel

theorem witness_OnlyExpiredUnheldExtentsAreScrubbed :
    let s := (scrubbing .queued 0 .idle).withPending [.headTake]
    (∃ t, step s = .next t) ∧ ((after .headTake s).extent 1).any (·.isScrubbing) = true ∧
      (s.extent 1).any (·.isScrubbing) = false := ⟨⟨_, rfl⟩, by decide +kernel, by decide +kernel⟩

theorem witness_TablesOnlyAdvance :
    base.marker = true ∧ base.clock.seconds ≤ 4294967295 ∧ (∃ t, step (base.withPending [.tick]) = .next t) ∧
      (let s := (base.withClasses { base.classes with fixed := false }).withPending [.tick]
       s.et.records = [] ∧ (after .tick s).classes.fixed = false ∧ ∃ t, step s = .next t) :=
  ⟨by decide +kernel, by decide +kernel, ⟨_, rfl⟩, by decide +kernel, by decide +kernel, _, rfl⟩

theorem witness_ExpiryNeverDecreases :
    let s := reading.withPending [.extend (written (.extend 1 1 false 1))]
    s.marker = true ∧ s.classes.fixed = true ∧ (∃ t, step s = .next t) ∧ s.extent 1 = some (doneExt 1) ∧
      (doneExt 1).retained = true ∧ ((after (.extend (written (.extend 1 1 false 1))) s).extent 1).any (·.retained) = true ∧
      (s.classEntry (doneExt 1).cls).defined = true :=
  ⟨by decide +kernel, by decide +kernel, ⟨_, rfl⟩, by decide +kernel, by decide +kernel, by decide +kernel,
    by decide +kernel⟩

theorem whole_base : base.Whole :=
  ⟨⟨by decide +kernel, by decide +kernel⟩, ⟨by decide +kernel, by decide +kernel⟩, by decide +kernel, by decide +kernel,
    by decide +kernel, by decide +kernel, by decide +kernel⟩

theorem sound_clock : base.clock.Sound :=
  ⟨by decide +kernel, by decide +kernel, by decide +kernel, by decide +kernel, by decide +kernel, by decide +kernel⟩

theorem witness_LayoutClockAndHoldsAreKept :
    (∃ t, step (base.withPending [.tick]) = .next t) ∧ base.Whole ∧ base.settings.Sound ∧ base.clock.Sound ∧
      base.cport.count < base.settings.cmodeN ∧
      HoldList.Sound ⟨[⟨5, 0, ⟨none, none, none⟩, 0⟩, ⟨4, 17280000, ⟨none, none, none⟩, 0⟩], 1⟩ base.clock.seconds :=
  ⟨⟨_, rfl⟩, whole_base, ⟨by decide +kernel, by decide +kernel, by decide +kernel, by decide +kernel, by decide +kernel⟩,
    sound_clock, by decide +kernel,
    ⟨by decide +kernel, by decide +kernel, by decide +kernel, by decide +kernel, by decide +kernel⟩⟩

theorem sound_table (l : ExtentTable) (h : decide (1 ≤ l.next ∧ l.next ≤ Config.numbersEnd ∧
    (l.records.map (·.number)).Pairwise (· < ·) ∧ (∀ r ∈ l.records, 1 ≤ r.number ∧ r.number < l.next) ∧
    l.records.length ≤ Config.maxRecords) = true) : l.Sound := by
  obtain ⟨a, b, c, d, e⟩ := of_decide_eq_true h
  exact ⟨a, b, c, d, e⟩

theorem witness_JournalAndExtentTableAreKept :
    (∃ t, step (reading.withPending [.tick]) = .next t) ∧ base.clock.Sound ∧ reading.et.Sound ∧
      (base.record .device (.clockState .locked .drift 1)).JournalSound ∧ reading.et.KeysSound ∧
      ((scrubbing .queued 0 .idle).et.Sound ∧ (scrubbing .queued 0 .idle).QueueSound) ∧ base.storeMap.Sound ∧
      writing.et.Sound ∧ writing.OpenSound := by
  refine ⟨⟨_, rfl⟩, sound_clock, sound_table _ (by decide +kernel),
    ⟨by decide +kernel, ⟨by decide +kernel, rfl, by decide +kernel⟩⟩, ⟨by decide +kernel, fun k n => ?_⟩,
    ⟨sound_table _ (by decide +kernel), by decide +kernel, ?_, ?_⟩,
    ⟨by decide +kernel, by decide +kernel, fun _ => ⟨by decide +kernel, rfl⟩, by decide +kernel⟩,
    sound_table _ (by decide +kernel), ?_, ?_⟩
  · have e : reading.et.keys = [(71, 1)] := by decide +kernel
    have f : reading.et.records = [doneExt 1] := by decide +kernel
    have g : (doneExt 1).number = 1 ∧ (doneExt 1).key = 71 ∧ (doneExt 1).state ≠ .voided := by decide +kernel
    rw [e, f]
    simp only [List.mem_singleton, Prod.mk.injEq]
    constructor
    · rintro ⟨rfl, rfl⟩
      exact ⟨_, rfl, g⟩
    · rintro ⟨r, rfl, a, b, _⟩
      exact ⟨b.symm.trans g.2.1, a.symm.trans g.1⟩
  · have e : (scrubbing .queued 0 .idle).engine.queue = [⟨1, .master .cport, none⟩] := by decide +kernel
    rw [e]
    simp only [List.mem_singleton, forall_eq]
    exact ⟨goneExt 1 .queued 0, by decide +kernel, by decide +kernel⟩
  · intro _ _
    decide +kernel
  · intro i st n h k
    have e : writing.storeMap.stores = [{ store0 with openExtent := some 1 }] := by decide +kernel
    match i with
    | 0 =>
      have f : writing.store 0 = some { store0 with openExtent := some 1 } := by decide +kernel
      rw [f] at h
      cases h
      cases k
      exact ⟨openExt 1, by decide +kernel, by decide +kernel, by decide +kernel⟩
    | i + 1 => simp [State.store, e] at h
  · have e : writing.et.records = [openExt 1] := by decide +kernel
    rw [e]
    simp only [List.mem_singleton, forall_eq]
    exact fun _ => ⟨{ store0 with openExtent := some 1 }, by decide +kernel, by decide +kernel⟩

end Sys2Proof.Tests
end

section
/-! SUPPORT. What a step can do to table memory, said once. `Tables` is table memory as the invariants read it,
`Move i` an elementary change that the command `i` may make to it, and `Follows i s t` says that the step from `s` to
`t` is a chain of such changes. The invariants are then a matter of the elementary changes alone. -/

namespace Sys2Proof.Machine

/-- Table memory as the invariants of the blocks read it; the entry ticks of the buffer are volatile and read 0.
`ready` says that the disposal queue stands for every DISPOSING extent (R141), which it does not until start-up has
rebuilt it. -/
structure Tables where
  ready : Bool
  marker : Bool
  et : ExtentTable
  map : StoreMap
  classes : ClassTable
  holds : HoldList
  seconds : Nat
  queue : List Nat
  buffer : List BufEntry
  nextSeq : Nat
  lastCheck : Word32
  counter : Nat

/-- The table memory of a state. -/
def State.tables (s : State) (ready : Bool) : Tables where
  ready := ready
  marker := s.marker
  et := s.et
  map := s.storeMap
  classes := s.classes
  holds := s.holds
  seconds := s.clock.seconds
  queue := s.engine.queue.map (·.ext)
  buffer := s.journal.kept.buffer
  nextSeq := s.journal.nextSeq
  lastCheck := s.journal.lastCheck
  counter := s.journal.counter

/-- The record of a number in a table. -/
def ExtentTable.find (t : ExtentTable) (n : Nat) : Option Extent := t.records.find? (fun r => r.number == n)

/-- A change of the record of one number, as a change of every record. -/
def Extent.changeAt (n : Nat) (f : Extent → Extent) (r : Extent) : Extent := if r.number == n then f r else r

/-- A change of one record of a table. -/
def ExtentTable.mod (t : ExtentTable) (n : Nat) (f : Extent → Extent) : ExtentTable :=
  { t with records := t.records.map (Extent.changeAt n f) }

theorem State.extent_eq_find (s : State) (n : Nat) : s.extent n = s.et.find n := rfl

theorem State.et_modExtent (s : State) (n : Nat) (f : Extent → Extent) : (s.modExtent n f).et = s.et.mod n f := rfl

/-- A change of a record that keeps what never changes over its life (R1, R4). -/
structure Extent.Keeps (f : Extent → Extent) : Prop where
  number : ∀ r, (f r).number = r.number
  key : ∀ r, (f r).key = r.key
  store : ∀ r, (f r).store = r.store

/-- A change of a record that neither begins nor ends its being written, disposed of or VOIDED. -/
structure Extent.Touch (f : Extent → Extent) : Prop extends Extent.Keeps f where
  writing : ∀ r, (f r).writing = r.writing
  disposing : ∀ r, (f r).state = .disposing ↔ r.state = .disposing
  voided : ∀ r, (f r).state = .voided ↔ r.state = .voided

/-- The table without the tombstone an OPEN evicts, if it evicts one (R14, R17). -/
def ExtentTable.without (t : ExtentTable) : Option Extent → ExtentTable
  | none => t
  | some x => { t with
      records := t.records.filter (fun r => r.number != x.number)
      keys := if x.state = .released then t.keys.filter (fun p => p.2 != x.number) else t.keys }

/-- What a change of a store keeps, other than a split, an OPEN or the end of a write: its blocks, its open extent, and a
frontier that does not go back (R23 to R25). -/
structure Store.Goes (a b : Store) : Prop where
  base : b.base = a.base
  limit : b.limit = a.limit
  openExtent : b.openExtent = a.openExtent
  forward : a.frontier ≤ b.frontier
  within : a.frontier ≤ a.limit → b.frontier ≤ b.limit
  reservation : a.reservation ≤ 32 → b.reservation ≤ 32

/-- An elementary change of table memory under the command `i`. -/
inductive Move (i : Instr) (T : Tables) : Tables → Prop
  /-- A record is entered (R152 to R154). -/
  | enter (o : Origin) (x : Subject) (room : T.buffer.length < Config.bufferPlaces) :
      Move i T { T with
        buffer := T.buffer ++
          [⟨⟨T.nextSeq, T.seconds, o, x, chainedCheck T.lastCheck T.nextSeq T.seconds o x⟩, 0⟩]
        nextSeq := T.nextSeq + 1
        lastCheck := chainedCheck T.lastCheck T.nextSeq T.seconds o x }
  /-- A page is used, and its records leave the buffer (R158, R159). -/
  | page (n c : Nat) (grows : T.counter ≤ c) : Move i T { T with buffer := T.buffer.drop n, counter := c }
  /-- A record changes within its state class (R3, R7). -/
  | touch (n : Nat) {f : Extent → Extent} (hf : Extent.Touch f) : Move i T { T with et := T.et.mod n f }
  /-- An extent stops being written, COMMITTED or VOIDED, and lets its store go (R5, R9, R14). -/
  | leave (r : Extent) (k : Nat) {f : Extent → Extent} (hf : Extent.Keeps f) (found : T.et.find r.number = some r)
      (writing : r.writing = true)
      (store : r.store = k ∨ ∃ st, T.map.stores[k]? = some st ∧ st.openExtent = some r.number)
      (ends : (f r).writing = false) (rests : (f r).state ≠ .disposing) :
      Move i T { T with
        et := { T.et.mod r.number f with
          keys := if (f r).state = .voided then T.et.keys.filter (fun p => p.2 != r.number) else T.et.keys }
        map := { T.map with stores := T.map.stores.modify k (fun st => { st with openExtent := none }) } }
  /-- A DISPOSING extent leaves the queue (R6, R141). -/
  | unqueue (r : Extent) {f : Extent → Extent} (hf : Extent.Keeps f) (found : T.et.find r.number = some r)
      (disposing : r.state = .disposing) (ends : (f r).retained = true ∨ (f r).state = .released)
      (rests : (f r).state ≠ .disposing) :
      Move i T { T with et := T.et.mod r.number f, queue := T.queue.filter (· != r.number) }
  /-- An extent joins the queue (R6, R138). -/
  | enqueue (r : Extent) {f : Extent → Extent} (hf : Extent.Keeps f) (found : T.et.find r.number = some r)
      (state : r.state = .committed ∨ r.state = .disposalFailed) (begins : (f r).state = .disposing) :
      Move i T { T with et := T.et.mod r.number f, queue := T.queue ++ [r.number] }
  /-- An OPEN, with the tombstone it evicts (R11 to R17, R40). -/
  | opened (x : Option Extent) (r : Extent) (st : Store) (fixed : T.classes.fixed = true)
      (gone : ∀ y ∈ x, y ∈ T.et.records ∧ y.tombstone = true)
      (room : x = none → T.et.records.length < Config.maxRecords) (number : r.number = T.et.next)
      (state : r.state = .opened) (fresh : r.key ∉ T.et.keys.map (·.1)) (bound : T.et.next < Config.numbersEnd)
      (store : T.map.stores[r.store]? = some st) (idle : st.openExtent = none) :
      Move i T { T with
        et := ⟨(T.et.without x).records ++ [r], T.et.next + 1, (T.et.without x).keys ++ [(r.key, T.et.next)]⟩
        map := { T.map with
          stores := T.map.stores.modify r.store (fun st => { st with openExtent := some T.et.next }) } }
  /-- Stores change without a split (R23, R25, R30). -/
  | stores (l : List Store) (p : Option PendingSplit) (goes : List.Forall₂ Store.Goes T.map.stores l)
      (pending : p.isSome = true → T.map.split.isSome = true ∨ T.map.stores.length < 4) :
      Move i T { T with map := { T.map with stores := l, split := p } }
  /-- A pending split applies (R32). -/
  | split (pending : T.map.split.isSome = true) :
      Move i T { T with map := { T.map with stores := splitStores T.map.stores, split := none } }
  /-- Archive seconds go on (R98, R102). -/
  | seconds (v : Nat) (command : i = .tick ∨ ∃ h, i = .adopt h)
      (forward : T.seconds ≤ Config.maxSeconds → T.seconds ≤ v ∧ v ≤ Config.maxSeconds) :
      Move i T { T with seconds := v }
  /-- A hold is placed or lifted (R127, R131). -/
  | holds (l : HoldList) (command : ∃ h, i = .holdPlace h ∨ i = .holdLift h) : Move i T { T with holds := l }
  /-- A class is set or the policy fixed (R111 to R113). -/
  | classes (l : ClassTable) (command : ∃ h, i = .classSet h ∨ i = .policyFix h)
      (latch : T.classes.fixed = true → l.fixed = true) : Move i T { T with classes := l }
  /-- The queue is lost with power or reset (R141, R185). -/
  | lost : Move i T { T with ready := false, queue := [] }
  /-- The queue is rebuilt from the DISPOSING extents, or they return to COMMITTED (R10, R150). -/
  | rebuilt (exhausted : Bool) :
      Move i T { T with
        ready := true
        et := { T.et with records := T.et.records.map (Extent.recovered exhausted) }
        queue := if exhausted then [] else (T.et.records.filter (fun r => r.state == .disposing)).map (·.number) }
  /-- A blank part is initialized (R184). -/
  | initialized (base size : Nat) (l : List ClassEntry) (blank : T.marker = false) :
      Move i T { T with
        marker := true, et := ⟨[], 1, []⟩, map := ⟨base, size, [Store.initial base size], none⟩
        classes := ⟨l, false⟩, holds := ⟨[], 0⟩, seconds := 0, queue := [], buffer := [], nextSeq := 1
        lastCheck := 0, counter := 0 }
  /-- A blank part that cannot be initialized stays as it is (R184). -/
  | stays (blank : T.marker = false) : Move i T { T with ready := true }

/-- A chain of elementary changes of table memory under a command. -/
abbrev Moves (i : Instr) : Tables → Tables → Prop := Relation.ReflTransGen (Move i)

/-- A step whose table memory changes by a chain of moves, and which does not change whether the part is live. -/
structure Follows (i : Instr) (s t : State) : Prop where
  live : t.live = s.live
  moves : ∀ b, Moves i (s.tables b) (t.tables b)

variable {i : Instr}

theorem Follows.refl (s : State) : Follows i s s := ⟨rfl, fun _ => .refl⟩

theorem Follows.trans {s t u : State} (a : Follows i s t) (b : Follows i t u) : Follows i s u :=
  ⟨b.live.trans a.live, fun r => (a.moves r).trans (b.moves r)⟩

/-- Table memory and the phase are as they were. -/
@[simp] def State.Same (s t : State) : Prop :=
  t.phase = s.phase ∧ t.marker = s.marker ∧ t.et = s.et ∧ t.storeMap = s.storeMap ∧ t.classes = s.classes ∧
    t.holds = s.holds ∧ t.clock.seconds = s.clock.seconds ∧
    t.engine.queue.map (·.ext) = s.engine.queue.map (·.ext) ∧ t.journal.buffer = s.journal.buffer ∧
    t.journal.nextSeq = s.journal.nextSeq ∧ t.journal.lastCheck = s.journal.lastCheck ∧
    t.journal.counter = s.journal.counter

/-- A step that leaves table memory and the phase alone. -/
theorem Follows.frame {s t : State} (h : s.Same t) : Follows i s t := by
  obtain ⟨hp, hm, he, hs, hc, hh, ht, hq, hb, hn, hl, hk⟩ := h
  refine ⟨by simp [State.live, hp], fun b => ?_⟩
  have e : t.tables b = s.tables b := by
    simp [State.tables, Journal.kept, hm, he, hs, hc, hh, ht, hq, hb, hn, hl, hk]
  rw [e]

/-- A step of one move, at a part that stays live or not. -/
theorem Follows.one {s t : State} (hp : t.phase = s.phase) (h : ∀ b, Move i (s.tables b) (t.tables b)) :
    Follows i s t := ⟨by simp [State.live, hp], fun b => .single (h b)⟩

/-- A fold follows when each of its steps does. -/
theorem Follows.foldl {α : Type} {f : State → α → State} (hf : ∀ s a, Follows i s (f s a)) (l : List α) (s : State) :
    Follows i s (l.foldl f s) := by
  induction l generalizing s with
  | nil => exact .refl s
  | cons a l ih => exact (hf s a).trans (ih _)

theorem Follows.touch (s : State) (n : Nat) {f : Extent → Extent} (hf : Extent.Touch f) :
    Follows i s (s.modExtent n f) := .one (by simp) fun _ => .touch n hf

theorem Store.Goes.refl (a : Store) : Store.Goes a a := ⟨rfl, rfl, rfl, le_rfl, id, id⟩

/-- Changing one store. -/
theorem goes_modify (l : List Store) (k : Nat) {f : Store → Store}
    (hf : ∀ st, l[k]? = some st → Store.Goes st (f st)) : List.Forall₂ Store.Goes l (l.modify k f) := by
  induction l generalizing k with
  | nil => simp
  | cons a l ih =>
    cases k with
    | zero => exact .cons (hf a rfl) (List.forall₂_same.2 fun x _ => .refl x)
    | succ k => exact .cons (.refl a) (ih k fun st h => hf st h)

/-- Changing every store. -/
theorem goes_map (l : List Store) {f : Store → Store} (hf : ∀ st, Store.Goes st (f st)) :
    List.Forall₂ Store.Goes l (l.map f) := by
  simp only [List.forall₂_map_right_iff]
  exact List.forall₂_same.2 fun x _ => hf x

theorem Follows.modStore (s : State) (k : Nat) {f : Store → Store}
    (hf : ∀ st, s.store k = some st → Store.Goes st (f st)) : Follows i s (s.modStore k f) :=
  .one (by simp) fun _ => .stores _ _ (goes_modify _ k hf) .inl

end Sys2Proof.Machine
end

section
/-! SUPPORT. Every shared operation is a chain of moves of table memory, in the order of Machine/Ops.lean and
Machine/Places.lean. -/

namespace Sys2Proof.Machine

variable {i : Instr}

/-! ### Changes of a record that are touches -/

/-- A change that keeps the state and the identity of a record is a touch. -/
theorem Extent.Touch.of_state {f : Extent → Extent} (hn : ∀ r, (f r).number = r.number) (hk : ∀ r, (f r).key = r.key)
    (hs : ∀ r, (f r).store = r.store) (h : ∀ r, (f r).state = r.state) : Extent.Touch f where
  number := hn
  key := hk
  store := hs
  writing r := by simp [Extent.writing, h]
  disposing r := by rw [h]
  voided r := by rw [h]

theorem touch_beginAppend : Extent.Touch Extent.beginAppend := by
  refine .of_state ?_ ?_ ?_ ?_ <;> intro r <;> unfold Extent.beginAppend <;> split <;> rfl

theorem touch_endFetch (tick : Nat) : Extent.Touch (Extent.endFetch tick) := by
  refine .of_state ?_ ?_ ?_ ?_ <;> intro r <;> unfold Extent.endFetch <;> split <;> rfl

theorem touch_appended (blocks tick : Nat) (data : List Byte) : Extent.Touch (Extent.appended blocks tick data) := by
  refine .of_state ?_ ?_ ?_ ?_ <;> intro r <;> unfold Extent.appended <;> split <;> rfl

theorem touch_verified (x : Integrity) (second : Nat) : Extent.Touch (Extent.verified x second) := by
  refine .of_state ?_ ?_ ?_ ?_ <;> intro r <;> unfold Extent.verified <;> split <;> rfl

theorem touch_extend (floor : Nat) : Extent.Touch (Extent.extend floor) := by
  refine .of_state ?_ ?_ ?_ ?_ <;> intro r <;> unfold Extent.extend <;> split <;> rfl

theorem touch_scrubIssued : Extent.Touch Extent.scrubIssued := by
  refine .of_state ?_ ?_ ?_ ?_ <;> intro r <;> unfold Extent.scrubIssued <;> split <;> rfl

theorem touch_headTaken : Extent.Touch Extent.headTaken := by
  refine .of_state ?_ ?_ ?_ ?_ <;> intro r <;> unfold Extent.headTaken <;> split <;> rfl

theorem touch_scrubFailed : Extent.Touch Extent.scrubFailed := by
  refine .of_state ?_ ?_ ?_ ?_ <;> intro r <;> unfold Extent.scrubFailed <;> split <;> rfl

/-- CLOSE moves an extent between the two writing states. -/
theorem touch_closing : Extent.Touch Extent.closing := by
  have hs (r : Extent) : r.closing.state = r.state ∨ r.closing.state = .closing ∧ r.state = .opened := by
    unfold Extent.closing
    split
    · next h => exact .inr ⟨rfl, by simp [Extent.quietOpen] at h; exact h.1⟩
    · exact .inl rfl
  refine ⟨⟨?_, ?_, ?_⟩, ?_, ?_, ?_⟩ <;> intro r
  · unfold Extent.closing; split <;> rfl
  · unfold Extent.closing; split <;> rfl
  · unfold Extent.closing; split <;> rfl
  all_goals rcases hs r with h | ⟨h, h'⟩ <;> simp [Extent.writing, *]

/-! ### Changes that leave or enter a state class -/

theorem keeps_void (cause : VoidCause) (seq : Option Nat) : Extent.Keeps (Extent.void cause seq) := by
  refine ⟨?_, ?_, ?_⟩ <;> intro r <;> unfold Extent.void <;> split <;> rfl

theorem keeps_commit (second : Nat) (clock : ClockState) : Extent.Keeps (Extent.commit second clock) := by
  refine ⟨?_, ?_, ?_⟩ <;> intro r <;> unfold Extent.commit <;> split <;> rfl

theorem keeps_returned : Extent.Keeps Extent.returned := by
  refine ⟨?_, ?_, ?_⟩ <;> intro r <;> unfold Extent.returned <;> split <;> rfl

theorem keeps_release (second : Nat) (seq : Option Nat) : Extent.Keeps (Extent.release second seq) := by
  refine ⟨?_, ?_, ?_⟩ <;> intro r <;> unfold Extent.release <;> split <;> rfl

theorem keeps_failDisposal : Extent.Keeps Extent.failDisposal := by
  refine ⟨?_, ?_, ?_⟩ <;> intro r <;> unfold Extent.failDisposal <;> split <;> rfl

theorem keeps_queue : Extent.Keeps Extent.queue := by
  refine ⟨?_, ?_, ?_⟩ <;> intro r <;> unfold Extent.queue <;> split <;> rfl

theorem keeps_recovered (exhausted : Bool) : Extent.Keeps (Extent.recovered exhausted) := by
  refine ⟨?_, ?_, ?_⟩ <;> intro r <;> unfold Extent.recovered <;> (repeat' split) <;> rfl

theorem isScrubbing_state {r : Extent} (h : r.isScrubbing = true) : r.state = .disposing := by
  simp only [Extent.isScrubbing, Bool.and_eq_true, beq_iff_eq] at h
  exact h.1

theorem returnable_state {r : Extent} (h : r.returnable = true) : r.state = .disposing := by
  simp only [Extent.returnable, Bool.and_eq_true, beq_iff_eq] at h
  exact h.1

/-! ### The disposal queue -/

/-- An extent leaves DISPOSING and the queue together (R141). -/
theorem follows_leaveQueue (s : State) (e : QueueEntry) (x : Exit) {r : Extent} {f : Extent → Extent}
    (hf : Extent.Keeps f) (found : s.extent e.ext = some r) (hd : r.state = .disposing)
    (ends : (f r).retained = true ∨ (f r).state = .released) (rests : (f r).state ≠ .disposing) :
    Follows i s ((s.modExtent e.ext f).leaveQueue e x) := by
  have hn : r.number = e.ext := State.extent_number found
  refine (Follows.one (t := (s.modExtent e.ext f).withEngine
    { s.engine with queue := s.engine.queue.filter (fun q => q.ext != e.ext) }) (by simp) fun b => ?_).trans ?_
  · have m := Move.unqueue (i := i) (T := s.tables b) r hf (by rw [hn]; exact found) hd ends rests
    rw [hn] at m
    have hq : (s.tables b).queue.filter (· != e.ext) =
        (s.engine.queue.filter (fun q => q.ext != e.ext)).map (·.ext) := by
      simp [State.tables, List.filter_map, Function.comp_def]
    rw [hq] at m
    exact m
  · have hq : ((s.modExtent e.ext f).leaveQueue e x).engine =
        { s.engine with queue := s.engine.queue.filter (fun q => q.ext != e.ext) } := by simp [State.leaveQueue]
    exact .frame (by simp [hq])

theorem follows_returnEntry (s : State) (e : QueueEntry) : Follows i s (s.returnEntry e) := by
  unfold State.returnEntry
  split
  · next h =>
    obtain ⟨r, hr, hret⟩ := (Option.any_eq_true ..).1 h
    have hs : r.returned.state = .committed := by simp [Extent.returned, hret]
    exact follows_leaveQueue s e .returned keeps_returned hr (returnable_state hret)
      (.inl (by simp [Extent.retained, hs])) (by simp [hs])
  · exact .refl s

theorem follows_setStage (s : State) (g : Stage) : Follows i s (s.setStage g) := .frame (by simp [State.setStage])

theorem follows_returnHead (s : State) : Follows i s s.returnHead := by
  unfold State.returnHead
  split
  · exact .refl s
  · exact (follows_returnEntry s _).trans (follows_setStage _ _)

theorem follows_returnQueue (s : State) : Follows i s s.returnQueue := by
  unfold State.returnQueue
  split
  · exact .foldl follows_returnEntry _ _
  · exact .foldl follows_returnEntry _ _
  · exact (Follows.frame (t := s.withMedia _) (by simp)).trans
      ((Follows.foldl follows_returnEntry _ _).trans (follows_setStage _ _))

/-! ### Splits and stores -/

theorem follows_endSlot (s : State) (ref : SlotRef) (r : Result) : Follows i s (s.endSlot ref r) := .frame (by simp)

theorem follows_raise (s : State) (c : EventClass) (m : Option Master) : Follows i s (s.raise c m) := .frame (by simp)

theorem follows_dropWait (s : State) (r : PlaceRequest) : Follows i s (s.dropWait r) :=
  .frame (by simp [State.dropWait])

theorem follows_askPlace (s : State) (r : PlaceRequest) : Follows i s (s.askPlace r) :=
  .frame (by simp [State.askPlace])

theorem follows_failSplit (s : State) (code : Code) : Follows i s (s.failSplit code) := by
  unfold State.failSplit
  split
  · exact .refl s
  · refine (Follows.one (t := s.withStoreMap _) (by simp) fun b => .stores _ none (goes_map _ ?_) (by simp)).trans
      ((follows_dropWait _ _).trans (follows_endSlot _ _ _))
    intro st
    split
    · exact ⟨rfl, rfl, rfl, le_rfl, id, id⟩
    · exact .refl st

theorem follows_exhaust (s : State) : Follows i s s.exhaust :=
  (follows_failSplit s _).trans (follows_returnQueue _)

/-! ### Journal records -/

/-- A record entered into a free place is a move (R152 to R154). -/
theorem follows_enter (s : State) (o : Origin) (x : Subject) (h : s.journal.hasPlace = true) :
    Follows i s (s.enter o x) := by
  refine .one (by simp) fun b => ?_
  have place : s.journal.buffer.length < Config.bufferPlaces := of_decide_eq_true h
  have room : (s.tables b).buffer.length < Config.bufferPlaces := by simpa [State.tables, Journal.kept] using place
  have e : (s.enter o x).tables b = { s.tables b with
      buffer := (s.tables b).buffer ++ [⟨⟨s.journal.nextSeq, s.clock.seconds, o, x,
        chainedCheck s.journal.lastCheck s.journal.nextSeq s.clock.seconds o x⟩, 0⟩]
      nextSeq := s.journal.nextSeq + 1
      lastCheck := chainedCheck s.journal.lastCheck s.journal.nextSeq s.clock.seconds o x } := by
    simp [State.tables, State.enter, Journal.kept]
  rw [e]
  exact .enter o x room

theorem follows_countOverflow (s : State) : Follows i s s.countOverflow :=
  .frame (by simp [State.countOverflow])

theorem follows_record (s : State) (o : Origin) (x : Subject) : Follows i s (s.record o x) := by
  unfold State.record
  split
  · exact follows_enter s o x ‹_›
  · exact follows_countOverflow s

/-! ### Issue and grant -/

theorem follows_judgeStore (s : State) (k : Nat) : Follows i s (s.judgeStore k) := by
  unfold State.judgeStore
  split
  · exact .refl s
  · next st _ =>
    dsimp only
    have h1 : Follows i s (if (st.isSplitting && decide (st.limit < st.frontier + Config.splitFloor)) = true then
        s.failSplit .tooSmall else s) := by
      split
      · exact follows_failSplit s _
      · exact .refl s
    split
    · refine h1.trans (Follows.trans ?_ (follows_raise _ _ _))
      exact .modStore _ k fun _ _ => ⟨rfl, rfl, rfl, le_rfl, id, id⟩
    · exact h1

/-- The frontier moves within the store (R25). -/
theorem follows_issueProgram (s : State) (op : MediaOp) (k : Nat) (a : Bool) :
    Follows i s (s.issueProgram op k a) := by
  unfold State.issueProgram
  split
  · exact .refl s
  · next st hst =>
    split
    · exact .refl s
    · next room =>
      refine (Follows.frame (t := s.fly _) (by simp)).trans ((Follows.modStore _ k fun x hx => ?_).trans (follows_judgeStore _ k))
      have hx' : s.store k = some x := by simpa [State.store] using hx
      obtain rfl : st = x := by rw [hst] at hx'; exact Option.some.inj hx'
      refine ⟨rfl, rfl, rfl, Nat.le_add_right _ _, fun _ => by simpa using room, fun h => ?_⟩
      dsimp only
      split
      · exact Nat.zero_le _
      · exact h

theorem follows_issueScrub (s : State) (op : MediaOp) (n : Nat) : Follows i s (s.issueScrub op n) := by
  unfold State.issueScrub
  split
  · exact (Follows.frame (t := s.fly op) (by simp)).trans ((Follows.touch _ n touch_scrubIssued).trans (follows_setStage _ _))
  · exact follows_returnHead s

theorem follows_issuePage (s : State) (op : MediaOp) : Follows i s (s.issuePage op) := by
  unfold State.issuePage
  dsimp only
  have h1 : Follows i s ((s.fly op).withJournal { s.journal with
      pageList := s.journal.pageList ++ [.issued s.journal.flushed (min Config.pageRecords s.journal.buffered)] }) :=
    .frame (by simp)
  split
  · refine h1.trans (Follows.trans ?_ (follows_exhaust _))
    split
    · exact follows_raise _ _ _
    · exact .refl _
  · split
    · exact h1.trans (follows_raise _ _ _)
    · exact h1

theorem follows_issue (s : State) (op : MediaOp) : Follows i s (s.issue op) := by
  unfold State.issue
  split
  · exact follows_issueProgram s op _ true
  · exact follows_issueProgram s op _ false
  · exact .frame (by simp)
  · exact .frame (by simp)
  · exact .frame (by simp)
  · exact follows_issueScrub s op _
  · exact follows_issuePage s op

theorem follows_grant (s : State) : Follows i s s.grant := by
  unfold State.grant
  split
  · exact .refl s
  · exact (Follows.frame (t := s.withMedia _) (by simp)).trans (follows_issue _ _)

theorem follows_place (s : State) (op : MediaOp) : Follows i s (s.place op) := by
  unfold State.place
  dsimp only
  split
  · exact (Follows.frame (t := s.withMedia _) (by simp)).trans (follows_grant _)
  · exact .frame (by simp)

theorem follows_complete (s : State) : Follows i s s.complete :=
  (Follows.frame (t := s.withMedia _) (by simp)).trans (follows_grant _)

theorem follows_judgePage (s : State) : Follows i s s.judgePage := by
  rcases s.judgePage_cases with h | ⟨_, h⟩ <;> rw [h]
  · exact .refl s
  · exact follows_place s _

/-! ### Changes of clock state -/

theorem follows_recordChange (s : State) (before : ClockState) : Follows i s (s.recordChange before) := by
  unfold State.recordChange
  split
  · exact .frame (by simp)
  · split
    · exact (follows_enter s _ _ ‹_›).trans (follows_judgePage _)
    · split
      · exact follows_countOverflow s
      · exact .frame (by simp)

/-- A change of clock state that leaves archive seconds alone. -/
theorem follows_changeClock (s : State) (c : Clock) (h : c.seconds = s.clock.seconds) :
    Follows i s (s.changeClock c) := by
  unfold State.changeClock
  split
  · exact .frame (by simpa using h)
  · exact (Follows.frame (t := s.withClock c) (by simpa using h)).trans
      ((follows_raise _ _ _).trans (follows_recordChange _ _))

/-! ### What is done at the grant of a place -/

theorem follows_settleSplit (s : State) : Follows i s s.settleSplit := by
  unfold State.settleSplit
  split
  · exact .refl s
  · next p hp =>
    dsimp only
    have halve : ∀ u : State, u.storeMap = s.storeMap → Follows i u (u.withStoreMap
        { u.storeMap with stores := splitStores s.storeMap.stores, split := none }) := by
      intro u hu
      rw [← hu]
      exact .one (by simp) fun b => .split (by simp [State.tables, hu, hp])
    refine Follows.trans ?_ ((follows_endSlot _ _ _).trans (follows_raise _ _ _))
    exact (follows_record s _ _).trans (halve _ (by simp))

theorem follows_askSplit (s : State) : Follows i s s.askSplit := by
  rcases s.askSplit_cases with h | ⟨_, _, h | h⟩ <;> rw [h]
  · exact .refl s
  · exact follows_settleSplit s
  · exact follows_askPlace s _

theorem follows_judgeSince (t s : State) : Follows i t (t.judgeSince s) := by
  rcases t.judgeSince_cases s with h | h <;> rw [h]
  · exact .refl t
  · exact follows_judgePage t

/-- The record an extent had before an operation that leaves the table is the one it has after it. -/
theorem extent_of_et {s t : State} (h : t.et = s.et) (n : Nat) : t.extent n = s.extent n := by
  rw [State.extent_eq_find, State.extent_eq_find, h]

/-- Voiding a record of the table (R5, R8, R9, R14). -/
theorem follows_voidExtent (s : State) {r : Extent} (o : Origin) (cause : VoidCause) (h : s.extent r.number = some r) :
    Follows i s (s.voidExtent r o cause) := by
  unfold State.voidExtent
  split
  · next hw =>
    dsimp only
    have hv : (Extent.void cause s.journal.nextPlace r).state = .voided := by simp [Extent.void, hw]
    refine (follows_record s o (r.voidSubject cause)).trans ?_
    generalize hu : s.record o (r.voidSubject cause) = u
    have hue : u.et = s.et := by rw [← hu]; simp
    refine Follows.trans (t := u.withEt { u.et.mod r.number (Extent.void cause s.journal.nextPlace) with
        keys := u.et.keys.filter (fun p => p.2 != r.number) } |>.modStore r.store
          (fun st => { st with openExtent := none })) (.one (by simp) fun b => ?_) ?_
    · have m := Move.leave (i := i) (T := u.tables b) r r.store (keeps_void cause s.journal.nextPlace)
        (by rw [← h]; simp [State.tables, State.extent_eq_find, hue]) hw (.inl rfl) (by simp [Extent.writing, hv])
        (by simp [hv])
      rw [if_pos hv] at m
      exact m
    · unfold State.clearStore
      refine Follows.trans ?_ (follows_askSplit _)
      exact .frame (by simp [State.dropWait, State.modStore, State.et_modExtent, ExtentTable.mod])
  · exact .refl s

theorem openRecord_extent {s : State} {k : Nat} {r : Extent} (h : s.openRecord k = some r) :
    ∃ st, s.store k = some st ∧ st.openExtent = some r.number ∧ s.extent r.number = some r := by
  unfold State.openRecord at h
  split at h
  · next st hst =>
    split at h
    · next n hn =>
      have := State.extent_number h
      exact ⟨st, hst, by rw [hn, this], by rw [this]; exact h⟩
    · cases h
  · cases h

theorem follows_endWrite (s : State) (r : Extent) (res : Result) : Follows i s (s.endWrite r res) := .frame (by simp)

theorem follows_settleMediaFault (s : State) (k : Nat) : Follows i s (s.settleMediaFault k) := by
  unfold State.settleMediaFault
  split
  · exact .refl s
  · next r hr =>
    obtain ⟨_, _, _, he⟩ := openRecord_extent hr
    exact (follows_voidExtent s _ _ he).trans (follows_endWrite _ _ _)

theorem follows_settleOpenTimeout (s : State) (k : Nat) : Follows i s (s.settleOpenTimeout k) := by
  unfold State.settleOpenTimeout
  split
  · exact .refl s
  · next r hr =>
    obtain ⟨_, _, _, he⟩ := openRecord_extent hr
    exact (follows_voidExtent s _ _ he).trans (follows_raise _ _ _)

theorem follows_settleRecovery (s : State) (n : Nat) : Follows i s (s.settleRecovery n) := by
  unfold State.settleRecovery
  split
  · exact .refl s
  · next r hr =>
    exact (follows_voidExtent s .device .interrupted (by rw [State.extent_number hr]; exact hr)).trans
      (Follows.frame (t := State.withStartup _ _) (by simp))

theorem follows_dropReader (s : State) (n : Nat) : Follows i s (s.dropReader n) := .frame (by simp)

theorem follows_settleIntegrity (s : State) (ref : SlotRef) : Follows i s (s.settleIntegrity ref) := by
  unfold State.settleIntegrity
  split
  · exact .refl s
  · split
    · exact (follows_record s _ _).trans ((Follows.touch _ _ (touch_verified _ _)).trans
        ((follows_dropReader _ _).trans ((follows_endSlot _ _ _).trans (follows_raise _ _ _))))
    · exact .refl s

theorem follows_settleDisposed (s : State) : Follows i s s.settleDisposed := by
  unfold State.settleDisposed
  split
  · exact .refl s
  · split
    · exact .refl s
    · next r hr =>
      split
      · next hsc =>
        dsimp only
        have hs : (Extent.release s.clock.seconds s.journal.nextPlace r).state = .released := by
          simp [Extent.release, hsc]
        refine Follows.trans ?_ (follows_setStage _ _)
        exact (follows_record s _ _).trans (follows_leaveQueue _ _ _ (keeps_release _ _)
          ((extent_of_et (by simp) _).trans hr) (isScrubbing_state hsc) (.inr hs) (by simp [hs]))
      · exact .refl s

theorem follows_settleDisposalFailed (s : State) : Follows i s s.settleDisposalFailed := by
  unfold State.settleDisposalFailed
  split
  · exact .refl s
  · split
    · exact .refl s
    · next r hr =>
      split
      · next hsc =>
        dsimp only
        have hs : r.failDisposal.state = .disposalFailed := by simp [Extent.failDisposal, hsc]
        refine Follows.trans ?_ ((follows_raise _ _ _).trans (follows_setStage _ _))
        exact (follows_record s _ _).trans (follows_leaveQueue _ _ _ keeps_failDisposal
          ((extent_of_et (by simp) _).trans hr) (isScrubbing_state hsc) (.inl (by simp [Extent.retained, hs]))
          (by simp [hs]))
      · exact .refl s

/-- Start-up ends with the part live as before. -/
theorem follows_settleStart (s : State) : Follows i s s.settleStart := by
  unfold State.settleStart
  split
  · next hp =>
    have h : ∀ u : State, u.phase = .startup → Follows i u (u.withPhase .running) := fun u hu =>
      ⟨by simp [State.live, hu], fun _ => .refl⟩
    exact (follows_record s _ _).trans (h _ (by simpa using hp))
  · exact .refl s

theorem follows_settle (s : State) (r : PlaceRequest) : Follows i s (s.settle r) := by
  unfold State.settle
  split
  · exact follows_settleRecovery s _
  · exact follows_settleStart s
  · exact follows_settleMediaFault s _
  · exact follows_settleOpenTimeout s _
  · exact follows_settleIntegrity s _
  · exact follows_settleDisposed s
  · exact follows_settleDisposalFailed s
  · exact follows_settleSplit s

theorem follows_request (s : State) (r : PlaceRequest) : Follows i s (s.request r) := by
  rcases s.request_cases r with ⟨_, h⟩ | ⟨_, h⟩ <;> rw [h]
  · exact (follows_settle s r).trans (follows_judgePage _)
  · exact follows_askPlace s r

theorem follows_grantPlace (s : State) (r : PlaceRequest) : Follows i s (s.grantPlace r) := by
  rcases s.grantPlace_cases r with ⟨_, h⟩ | ⟨_, h⟩ <;> rw [h]
  · exact (follows_dropWait s r).trans ((follows_settle _ r).trans (follows_judgePage _))
  · exact .refl s

theorem follows_grantMark (s : State) : Follows i s s.grantMark := by
  unfold State.grantMark
  split
  · exact .refl s
  · split
    · have h : ∀ u : State, Follows i u (u.withJournal { u.journal with mark := none }) := fun _ => .frame (by simp)
      exact (follows_record s _ _).trans (h _)
    · exact .refl s

theorem follows_grantWaits (n : Nat) (s : State) : Follows i s (s.grantWaits n) := by
  induction n generalizing s with
  | zero => exact .refl s
  | succ n ih =>
    unfold State.grantWaits
    split
    · exact .refl s
    · split
      · exact (follows_dropWait s _).trans ((follows_settle _ _).trans (ih _))
      · exact .refl s

theorem follows_grantPlaces (s : State) : Follows i s s.grantPlaces :=
  (follows_grantMark s).trans (follows_grantWaits _ _)

end Sys2Proof.Machine
end

section
/-! SUPPORT. Every command is a chain of moves of table memory: first what the owners of the capsule kinds answer, then
the rows that are no capsules, and at last power and start-up. -/

namespace Sys2Proof.Machine

variable {i : Instr}

/-! ### Capsules -/

/-- The state an owner's verdict leads to, if any, follows. -/
def Verdict.Follows (i : Instr) (s : State) : Verdict → Prop
  | .refuse _ _ => True
  | .done _ _ t => Machine.Follows i s t
  | .take _ _ _ t => Machine.Follows i s t

@[simp] theorem Verdict.follows_refuse (s : State) (code : Code) (fields : List Byte) :
    (Verdict.refuse code fields).Follows i s := trivial

@[simp] theorem Verdict.follows_done_self (s : State) (code : Code) (fields : List Byte) :
    (Verdict.done code fields s).Follows i s := .refl s

theorem follows_respond (s : State) (m : Master) (r : Receipt) : Follows i s (s.respond m r) := .frame (by simp)

theorem follows_takeMark (s : State) (m : Master) : Follows i s (s.takeMark m) := .frame (by simp)

theorem follows_setSlot (s : State) (ref : SlotRef) (v : Slot) : Follows i s (s.setSlot ref v) := .frame (by simp)

theorem follows_conclude (s : State) (c : Capsule) {v : Verdict} (h : v.Follows i s) :
    Follows i s (s.conclude c v) := by
  cases v with
  | refuse code fields => exact follows_respond s _ _
  | done code fields t => exact h.trans (follows_respond t _ _)
  | take k w fields t => exact h.trans ((follows_setSlot t _ _).trans (follows_respond _ _ _))

theorem follows_judge (s : State) (c : Capsule) (k : Kind) (n : Nat) {owner : Ctx → Req → State → Verdict}
    (h : ∀ x q u, (owner x q u).Follows i u) : Follows i s (s.judge c k n owner) := by
  unfold State.judge
  dsimp only
  split
  · exact follows_respond s _ _
  · split
    · exact follows_respond s _ _
    · split
      · exact .frame (by simp)
      · split
        · exact follows_respond s _ _
        · exact follows_conclude s c (h _ _ _)

/-- A capsule's step follows when its owner's verdicts do. -/
theorem follows_handOver (s : State) (h : HandOver) (k : Kind) {owner : Ctx → Req → State → Verdict}
    (ho : ∀ x q u, (owner x q u).Follows i u) : Follows i s (s.handOver h k owner) := by
  unfold State.handOver
  split
  · exact .refl s
  · split
    · exact .refl s
    · split
      · exact (follows_takeMark s _).trans (follows_judge _ _ _ _ ho)
      · exact .refl s

/-- What an outcome leads to follows. -/
def Leads (i : Instr) (s : State) (o : Host.Outcome State Fault Refusal) : Prop := ∀ t, o = .next t → Follows i s t

theorem Leads.next {s t : State} (h : Follows i s t) : Leads i s (.next t) := by
  intro u hu
  cases hu
  exact h

theorem Leads.stay (s : State) : Leads i s (.next s) := .next (.refl s)

/-! ### Writing -/

/-- An accepted OPEN is a move, with the tombstone it evicts (R11 to R17, R40). -/
theorem follows_create (s : State) (x : Option Extent) (opener : Node) (store cls group key : Nat) {st : Store}
    (fixed : s.classes.fixed = true) (gone : ∀ y ∈ x, y ∈ s.et.records ∧ y.tombstone = true)
    (room : x = none → s.et.records.length < Config.maxRecords) (fresh : s.keyOwner key = none)
    (bound : s.et.next < Config.numbersEnd) (hst : s.store store = some st) (idle : st.openExtent = none)
    {u : State} (hu : u = s.withEt (s.et.without x)) :
    Follows i s (u.create opener store cls group key st.frontier) := by
  subst hu
  refine .one (by simp) fun b => ?_
  have hk : key ∉ s.et.keys.map (·.1) := by
    simp only [State.keyOwner, Option.map_eq_none_iff, List.find?_eq_none, beq_iff_eq] at fresh
    simpa using fun n hn => fresh (key, n) hn rfl
  have m := Move.opened (i := i) (T := s.tables b) x
    (Extent.created s.et.next key group store cls opener st.frontier s.clock.tick) st fixed gone room rfl rfl hk bound
    hst idle
  cases x <;> exact m

theorem judgeOpenKey_follows (s : State) (opener : Node) (store cls group key : Nat) {st : Store}
    (fixed : s.classes.fixed = true) (hst : s.store store = some st) (idle : st.openExtent = none) :
    (judgeOpenKey s opener store cls group key st.frontier).Follows i s := by
  unfold judgeOpenKey
  split
  · split <;> simp
  · next fresh =>
    split
    · simp
    · next bound =>
      split
      · next room =>
        exact follows_create s none opener store cls group key fixed (by simp) (fun _ => room) fresh
          (Nat.lt_of_not_le bound) hst idle rfl
      · split
        · simp
        · next t ht =>
          have hm : t ∈ s.et.records := List.mem_of_find?_eq_some ht
          have htomb : t.tombstone = true := by
            have := List.find?_some ht
            simp only [Extent.evictable, Bool.and_eq_true] at this
            exact this.1
          exact follows_create s (some t) opener store cls group key fixed (by simp [hm, htomb]) (by simp) fresh
            (Nat.lt_of_not_le bound) hst idle rfl

theorem judgeOpen_follows (x : Ctx) (q : Req) (u : State) : (judgeOpen x q u).Follows i u := by
  unfold judgeOpen
  split
  · split
    · simp
    · next fixed =>
      split
      · simp
      · next st hst =>
        split
        · simp
        · next busy =>
          have idle : st.openExtent = none := by
            simp only [Bool.or_eq_true, not_or, Bool.not_eq_true, Option.isSome_eq_false_iff,
              Option.isNone_iff_eq_none] at busy
            exact busy.2
          repeat' split
          all_goals first
            | exact judgeOpenKey_follows u _ _ _ _ _ (by simpa using fixed) hst idle
            | exact Verdict.follows_refuse _ _ _
  · simp

/-- The record a check names is in the table. -/
theorem named_extent {s : State} {n : Nat} {r : Extent} (h : s.named n = .ok r) : s.extent n = some r := by
  unfold State.named at h
  split at h
  · cases h
  · split at h
    · cases h
    · next hr => cases h; exact hr

theorem writable_extent {s : State} {m : Master} {n : Nat} {r : Extent} (h : s.writable m n = .ok r) :
    s.extent n = some r := by
  unfold State.writable at h
  split at h
  · cases h
  · next x hx =>
    repeat' split at h
    all_goals cases h
    exact named_extent hx

theorem follows_takeStore (s : State) (k : Nat) (x : Staging) : Follows i s (s.takeStore k x) :=
  .frame (by simp [State.takeStore, State.dropWait])

theorem follows_beginAppend (s : State) (r : Extent) {blocks : Nat} (h : blocks ≤ 32) :
    Follows i s (s.beginAppend r blocks) :=
  (Follows.modStore s r.store (f := fun st => { st with reservation := blocks })
    fun _ _ => ⟨rfl, rfl, rfl, le_rfl, id, fun _ => h⟩).trans
    ((Follows.touch _ _ touch_beginAppend).trans (follows_takeStore _ _ _))

theorem judgeAppend_follows (x : Ctx) (q : Req) (u : State) : (judgeAppend x q u).Follows i u := by
  unfold judgeAppend
  split
  · next ext blocks =>
    split
    · simp
    · next hb =>
      have h32 : blocks ≤ 32 := by
        simp only [Bool.or_eq_true, decide_eq_true_eq, not_or, Nat.not_lt] at hb
        exact hb.2
      repeat' split
      all_goals first
        | exact follows_beginAppend u _ h32
        | exact Verdict.follows_refuse _ _ _
  · simp

theorem follows_beginClose (s : State) (r : Extent) : Follows i s (s.beginClose r) :=
  (Follows.touch s _ touch_closing).trans ((follows_takeStore _ _ _).trans (follows_place _ _))

theorem judgeClose_follows (x : Ctx) (q : Req) (u : State) : (judgeClose x q u).Follows i u := by
  unfold judgeClose
  repeat' split
  all_goals first
    | exact follows_beginClose u _
    | exact Verdict.follows_refuse _ _ _

theorem judgeAbandon_follows (x : Ctx) (q : Req) (u : State) : (judgeAbandon x q u).Follows i u := by
  unfold judgeAbandon
  split
  · split
    · simp
    · next r hr =>
      have he := writable_extent hr
      split
      · simp
      · split
        · simp
        · exact (follows_voidExtent u _ _ (by rw [State.extent_number he]; exact he)).trans (follows_judgePage _)
  · simp

theorem follows_setUnit (s : State) (k : Nat) (x : Staging) (t : Timer) : Follows i s (s.setUnit k x t) := .frame (by simp)

theorem follows_failFetch (s : State) (ext : Nat) : Follows i s (s.failFetch ext) := by
  unfold State.failFetch
  split
  · exact .refl s
  · refine Follows.trans ?_ (follows_setUnit _ _ _ _)
    exact (Follows.modStore s _ (f := fun st => { st with reservation := 0 })
      fun _ _ => ⟨rfl, rfl, rfl, le_rfl, id, fun _ => Nat.zero_le _⟩).trans (Follows.touch _ _ (touch_endFetch _))

theorem follows_fetchFault (s : State) (ref : SlotRef) (ext : Nat) : Follows i s (s.fetchFault ref ext) :=
  (follows_failFetch s ext).trans ((Follows.frame (t := State.raiseFault _ ref) (by simp)).trans (follows_endSlot _ _ _))

theorem follows_fetched (s : State) (ref : SlotRef) (h : Held) (w : AppendWork) (data : List Byte) :
    Follows i s (s.fetched ref h w data) := by
  unfold State.fetched
  split
  · exact .refl s
  · exact (follows_setSlot s _ _).trans ((follows_setUnit _ _ _ _).trans (follows_place _ _))

theorem follows_appendDone (s : State) (k blocks : Nat) : Follows i s (s.appendDone k blocks) := by
  unfold State.appendDone
  split
  · exact .refl s
  · refine Follows.trans ?_ (follows_endWrite _ _ _)
    exact (Follows.touch s _ (touch_appended _ _ _)).trans (follows_setUnit _ _ _ _)

/-- The commit of an extent is a move: it stops being written and lets its store go (R5, R50). -/
theorem follows_trailerDone (s : State) (k : Nat) : Follows i s (s.trailerDone k) := by
  unfold State.trailerDone
  split
  · exact .refl s
  · next r hr =>
    split
    · next hc =>
      dsimp only
      obtain ⟨st, hst, ho, he⟩ := openRecord_extent hr
      refine Follows.trans ?_ (follows_judgeSince _ _)
      unfold State.clearStore
      refine Follows.trans ?_ (follows_askSplit _)
      have hs : (Extent.commit s.clock.seconds s.clock.state r).state = .committed := by simp [Extent.commit, hc]
      refine Follows.trans (t := (s.modExtent r.number (Extent.commit s.clock.seconds s.clock.state)).modStore k
        (fun st => { st with openExtent := none })) (.one (by simp) fun b => ?_) ?_
      · have m := Move.leave (i := i) (T := s.tables b) r k (keeps_commit s.clock.seconds s.clock.state) he
          (by simp [Extent.writing, hc]) (.inr ⟨st, hst, ho⟩) (by simp [Extent.writing, hs]) (by simp [hs])
        rw [if_neg (by simp [hs])] at m
        exact m
      · exact .frame (by simp [State.modStore])
    · exact .refl s

theorem follows_judgeTimer (s : State) (k : Nat) : Follows i s (s.judgeTimer k) := by
  unfold State.judgeTimer
  split
  · exact (follows_setUnit s _ _ _).trans (follows_request _ _)
  · exact .refl s

/-! ### Reading -/

theorem follows_addReader (s : State) (n : Nat) : Follows i s (s.addReader n) := .frame (by simp)

theorem judgeRead_follows (x : Ctx) (q : Req) (u : State) : (judgeRead x q u).Follows i u := by
  unfold judgeRead
  repeat' split
  all_goals first
    | exact (follows_addReader u _).trans (follows_place _ _)
    | exact Verdict.follows_refuse _ _ _

theorem judgeVerify_follows (x : Ctx) (q : Req) (u : State) : (judgeVerify x q u).Follows i u := by
  unfold judgeVerify
  repeat' split
  all_goals first
    | exact (follows_addReader u _).trans (follows_place _ _)
    | exact Verdict.follows_refuse _ _ _

theorem follows_setVerify (s : State) (ref : SlotRef) (w : VerifyWork) : Follows i s (s.setVerify ref w) := .frame (by simp)

theorem follows_damaged (s : State) (ref : SlotRef) (w : VerifyWork) (d : Damage) : Follows i s (s.damaged ref w d) :=
  (follows_setVerify s _ _).trans (follows_request _ _)

theorem follows_verifyMatch (s : State) (ref : SlotRef) (w : VerifyWork) (check : Word32) :
    Follows i s (s.verifyMatch ref w check) :=
  (Follows.touch s _ (touch_verified _ _)).trans ((follows_dropReader _ _).trans (follows_endSlot _ _ _))

theorem follows_verifyFetched (s : State) (ref : SlotRef) (blocks : Nat) (data : List Byte) :
    Follows i s (s.verifyFetched ref blocks data) := by
  unfold State.verifyFetched
  split
  · exact .refl s
  · split
    · exact .refl s
    · dsimp only
      split
      · exact (follows_setVerify s _ _).trans (follows_place _ _)
      · split
        · exact follows_verifyMatch s _ _ _
        · exact follows_damaged s _ _ _

theorem follows_verifyFault (s : State) (ref : SlotRef) (blocks : Nat) : Follows i s (s.verifyFault ref blocks) := by
  unfold State.verifyFault
  split
  · exact .refl s
  · exact follows_damaged s _ _ _

/-! ### Links -/

theorem follows_resetSlot (s : State) (ref : SlotRef) : Follows i s (s.resetSlot ref) := by
  unfold State.resetSlot
  split
  · split
    · exact .frame (by simp)
    · split <;> exact .frame (by simp)
  · exact .frame (by simp)
  · refine Follows.trans ?_ (follows_setSlot _ _ _)
    split
    · exact follows_failFetch s _
    · exact .refl s
  · exact .frame (by simp)
  · exact .frame (by simp)
  · exact .refl s

theorem follows_resetLink (s : State) (n : Node) : Follows i s (s.resetLink n) := by
  unfold State.resetLink
  dsimp only
  refine (Follows.foldl follows_resetSlot (linkSlots n) s).trans ?_
  generalize (linkSlots n).foldl State.resetSlot s = u
  exact .frame (by simp [QueueEntry.orphan, Function.comp_def])

/-! ### Reports, links and routes -/

theorem judgeQuery_follows (x : Ctx) (q : Req) (u : State) : (judgeQuery x q u).Follows i u := by
  unfold judgeQuery
  repeat' split
  all_goals simp

theorem judgeFind_follows (x : Ctx) (q : Req) (u : State) : (judgeFind x q u).Follows i u := by
  unfold judgeFind
  repeat' split
  all_goals simp

theorem judgeStatus_follows (x : Ctx) (q : Req) (u : State) : (judgeStatus x q u).Follows i u := by
  unfold judgeStatus
  repeat' split
  all_goals simp

theorem judgeHoldList_follows (x : Ctx) (q : Req) (u : State) : (judgeHoldList x q u).Follows i u := by
  unfold judgeHoldList
  repeat' split
  all_goals simp

theorem judgeClassGet_follows (x : Ctx) (q : Req) (u : State) : (judgeClassGet x q u).Follows i u := by
  unfold judgeClassGet
  repeat' split
  all_goals simp

theorem judgeWindow_follows (x : Ctx) (q : Req) (u : State) : (judgeWindow x q u).Follows i u := by
  unfold judgeWindow
  split
  · exact Follows.frame (t := u.withLink _ _) (by simp)
  · simp

theorem judgeEvents_follows (x : Ctx) (q : Req) (u : State) : (judgeEvents x q u).Follows i u := by
  unfold judgeEvents
  split
  · exact Follows.frame (t := u.clearSet _) (by simp)
  · simp

theorem judgeRoute_follows (x : Ctx) (q : Req) (u : State) : (judgeRoute x q u).Follows i u := by
  unfold judgeRoute
  split
  · split
    · simp
    · split
      · simp
      · exact Follows.frame (t := u.withRouter _) (by simp)
  · simp

/-! ### Disposition -/

theorem follows_enqueue (s : State) (e : QueueEntry) {r : Extent} (h : s.extent e.ext = some r)
    (hr : r.state = .committed ∨ r.state = .disposalFailed) : Follows i s (s.enqueue e) := by
  have hn : r.number = e.ext := State.extent_number h
  refine .one (by simp) fun b => ?_
  have m := Move.enqueue (i := i) (T := s.tables b) r keeps_queue (by rw [hn]; exact h) hr
    (by simp [Extent.queue, hr])
  rw [hn] at m
  have e : (s.enqueue e).tables b = { s.tables b with
      et := (s.tables b).et.mod e.ext Extent.queue, queue := (s.tables b).queue ++ [e.ext] } := by
    simp [State.tables, State.enqueue, State.et_modExtent]
  rw [e]
  exact m

/-- A number classified QUEUED has a record that may enter DISPOSING (R138). -/
theorem classify_queued {s : State} {m : Master} {n : Nat} (h : s.classify m n = .queued) :
    ∃ r, s.extent n = some r ∧ (r.state = .committed ∨ r.state = .disposalFailed) := by
  unfold State.classify at h
  split at h
  · cases h
  · next r hr =>
    refine ⟨r, hr, ?_⟩
    cases hs : r.state with
    | committed => exact .inl rfl
    | disposalFailed => exact .inr rfl
    | opened => simp [hs] at h
    | closing => simp [hs] at h
    | voided => simp [hs] at h
    | disposing => simp [hs] at h
    | released => simp [hs] at h

theorem follows_classifyAll (m : Master) (slot : Option SlotRef) (l : List Nat) (s : State) (t : Tally) :
    Follows i s (State.classifyAll m slot l s t).1 := by
  induction l generalizing s t with
  | nil => exact .refl s
  | cons n ns ih =>
    unfold State.classifyAll
    split
    · exact .refl s
    · split
      · next h =>
        obtain ⟨r, hr, hs⟩ := classify_queued h
        exact (follows_enqueue s _ hr hs).trans (ih _ _)
      · exact ih s _

theorem judgeDispose_follows (x : Ctx) (q : Req) (u : State) : (judgeDispose x q u).Follows i u := by
  unfold judgeDispose
  split
  · split
    · simp
    · split
      · simp
      · dsimp only
        split
        · simp
        · split
          · simp
          · exact follows_classifyAll _ _ _ _ _
  · simp

theorem follows_placeScrub (s : State) (n : Nat) : Follows i s (s.placeScrub n) := by
  unfold State.placeScrub
  split
  · exact .refl s
  · split
    · exact (follows_setStage s _).trans (follows_place _ _)
    · exact follows_returnHead s

theorem follows_takeHead (s : State) : Follows i s s.takeHead := by
  unfold State.takeHead
  split
  · exact .refl s
  · dsimp only
    split
    · exact (Follows.touch s _ touch_headTaken).trans (follows_setStage _ _)
    · exact (Follows.touch s _ touch_headTaken).trans (follows_placeScrub _ _)

theorem follows_scrubFault (s : State) (n : Nat) : Follows i s (s.scrubFault n) := by
  unfold State.scrubFault
  split
  · exact .refl s
  · split
    · dsimp only
      split
      · exact (Follows.touch s _ touch_scrubFailed).trans (follows_returnHead _)
      · exact (Follows.touch s _ touch_scrubFailed).trans (follows_placeScrub _ _)
    · exact (follows_setStage s _).trans (follows_request _ _)

/-! ### Holds, policy and time -/

theorem follows_noteLate (s : State) (o : Origin) (matter : Nat) (x : Option Extent) :
    Follows i s (s.noteLate o matter x) := by
  unfold State.noteLate
  split
  · exact .refl s
  · exact (follows_record s _ _).trans (follows_raise _ _ _)

theorem judgeHoldPlace_follows (h : HandOver) (x : Ctx) (q : Req) (u : State) :
    (judgeHoldPlace x q u).Follows (.holdPlace h) u := by
  have placed (o : Origin) (matter : Nat) (scope : Scope) :
      Machine.Follows (.holdPlace h) u (u.placeHold o matter scope) :=
    (Follows.one (t := u.addHold _) (by simp) fun _ => .holds _ ⟨h, .inl rfl⟩).trans
      ((follows_record _ _ _).trans ((follows_noteLate _ _ _ _).trans (follows_judgePage _)))
  unfold judgeHoldPlace
  repeat' split
  all_goals first
    | exact placed _ _ _
    | exact Verdict.follows_refuse _ _ _

theorem judgeHoldLift_follows (h : HandOver) (x : Ctx) (q : Req) (u : State) :
    (judgeHoldLift x q u).Follows (.holdLift h) u := by
  have held (l : HoldList) : Machine.Follows (.holdLift h) u (u.withHolds l) :=
    .one (by simp) fun _ => .holds l ⟨h, .inr rfl⟩
  have lifted (o : Origin) (k : Nat) (y : Hold) : Machine.Follows (.holdLift h) u (u.liftHold o k y) :=
    (held _).trans ((follows_record _ _ _).trans (follows_judgePage _))
  unfold judgeHoldLift
  repeat' split
  all_goals first
    | exact lifted _ _ _
    | exact Verdict.follows_refuse _ _ _

theorem judgeClassSet_follows (h : HandOver) (x : Ctx) (q : Req) (u : State) :
    (judgeClassSet x q u).Follows (.classSet h) u := by
  have written (cls : Nat) (e : ClassEntry) : Machine.Follows (.classSet h) u (u.writeClass cls e) :=
    .one (by simp) fun _ => .classes _ ⟨h, .inl rfl⟩ id
  have set (o : Origin) (cls : Nat) (e : ClassEntry) : Machine.Follows (.classSet h) u (u.setClass o cls e) := by
    unfold State.setClass
    split
    · exact (written cls e).trans ((follows_record _ _ _).trans (follows_judgePage _))
    · exact written cls e
  unfold judgeClassSet
  dsimp only
  repeat' split
  all_goals first
    | exact set _ _ _
    | exact Verdict.follows_refuse _ _ _

theorem judgePolicyFix_follows (h : HandOver) (x : Ctx) (q : Req) (u : State) :
    (judgePolicyFix x q u).Follows (.policyFix h) u := by
  have fixed (o : Origin) : Machine.Follows (.policyFix h) u (u.fixPolicy o) :=
    (Follows.one (t := u.withClasses { u.classes with fixed := true }) (by simp)
      fun _ => .classes _ ⟨h, .inr rfl⟩ fun _ => rfl).trans
      ((follows_record _ _ _).trans (follows_judgePage _))
  unfold judgePolicyFix
  repeat' split
  all_goals first
    | exact fixed _
    | exact Verdict.follows_refuse _ _ _

theorem follows_extendOne (days : Option Nat) (p : State × ExtendTally) (n : Nat) :
    Follows i p.1 (State.extendOne days p n).1 := by
  obtain ⟨s, t⟩ := p
  unfold State.extendOne
  dsimp only
  split
  · exact .refl s
  · split
    · exact .refl s
    · split
      · exact .refl s
      · exact .touch s n (touch_extend _)

theorem follows_extendAll (s : State) (first last : Nat) (days : Option Nat) :
    Follows i s (s.extendAll first last days).1 := by
  have fold (l : List Nat) (p : State × ExtendTally) : Follows i p.1 (l.foldl (State.extendOne days) p).1 := by
    induction l generalizing p with
    | nil => exact .refl _
    | cons n l ih => exact (follows_extendOne days p n).trans (ih _)
  exact fold _ (s, _)

theorem judgeExtend_follows (x : Ctx) (q : Req) (u : State) : (judgeExtend x q u).Follows i u := by
  unfold judgeExtend
  split
  · repeat' split
    all_goals first
      | exact Verdict.follows_refuse _ _ _
      | exact (follows_extendAll u _ _ _).trans ((follows_record _ _ _).trans (follows_judgePage _))
  · simp

theorem slew_seconds (c : Clock) (h : c.seconds ≤ Config.maxSeconds) :
    c.seconds ≤ c.slew.seconds ∧ c.slew.seconds ≤ Config.maxSeconds := by
  unfold Clock.slew
  split
  · exact ⟨le_rfl, h⟩
  · repeat' split
    all_goals constructor <;> dsimp only <;> omega

theorem follows_tickClock (s : State) : Follows .tick s s.tickClock := by
  refine .one (by simp) fun b => ?_
  have hs : s.tickClock.clock.seconds = s.clock.slew.seconds := by
    simp only [State.tickClock, State.withFreeCount_clock, State.withClock_clock, Clock.age]
    split <;> rfl
  have e : s.tickClock.tables b = { s.tables b with seconds := s.clock.slew.seconds } := by
    simp [State.tables, hs]
  rw [e]
  exact .seconds _ (.inl rfl) (slew_seconds s.clock)

theorem follows_judgeHoldover (s : State) : Follows i s s.judgeHoldover := by
  unfold State.judgeHoldover
  split
  · exact follows_changeClock s _ rfl
  · exact .refl s

theorem follows_judgeTick (s : State) : Follows i s s.judgeTick :=
  (follows_judgeHoldover s).trans ((Follows.foldl follows_judgeTimer _ _).trans (follows_judgePage _))

/-- A time mark leaves archive seconds alone (R96, R97). -/
theorem onMark_seconds (c : Clock) (reference : Nat) : (c.onMark reference).seconds = c.seconds := by
  unfold Clock.onMark
  split <;> rfl

theorem judgeTime_follows (x : Ctx) (q : Req) (u : State) : (judgeTime x q u).Follows i u := by
  unfold judgeTime
  split
  · split
    · simp
    · exact (Follows.frame (t := u.withLink _ _) (by simp)).trans
        (follows_changeClock _ _ (by simp [onMark_seconds]))
  · simp

theorem judgeAdopt_follows (h : HandOver) (x : Ctx) (q : Req) (u : State) :
    (judgeAdopt x q u).Follows (.adopt h) u := by
  have adopted (o : Origin) (m : FarMark) (d : Int) : Machine.Follows (.adopt h) u (u.adopt o m d) := by
    refine (Follows.one (t := u.withClock (u.clock.adopted d)) (by simp) fun b => .seconds _ (.inr ⟨h, rfl⟩)
      fun hs => ?_).trans ((follows_raise _ _ _).trans ((follows_record _ _ _).trans (follows_judgePage _)))
    change u.clock.seconds ≤ Config.maxSeconds at hs
    change u.clock.seconds ≤ adoptSeconds u.clock.seconds d ∧ adoptSeconds u.clock.seconds d ≤ Config.maxSeconds
    unfold adoptSeconds
    split <;> omega
  unfold judgeAdopt
  dsimp only
  repeat' split
  all_goals first
    | exact adopted _ _ _
    | exact Verdict.follows_refuse _ _ _

/-! ### Stores and the journal's own steps -/

theorem judgeSplit_follows (x : Ctx) (q : Req) (u : State) : (judgeSplit x q u).Follows i u := by
  unfold judgeSplit
  split
  · next target =>
    split
    · simp
    · next shape =>
      have few : u.storeMap.stores.length < 4 := by omega
      have begun (k : Nat) : Machine.Follows i u (u.beginSplit target k) :=
        .one (by simp [State.beginSplit]) fun b =>
          .stores _ _ (goes_map _ fun _ => ⟨rfl, rfl, rfl, le_rfl, id, id⟩) fun _ => .inr few
      repeat' split
      all_goals first
        | exact begun _
        | exact Verdict.follows_refuse _ _ _
  · simp

theorem judgeJournalRead_follows (x : Ctx) (q : Req) (u : State) : (judgeJournalRead x q u).Follows i u := by
  unfold judgeJournalRead
  repeat' split
  all_goals first
    | exact follows_place u _
    | exact Verdict.follows_refuse _ _ _
    | exact Verdict.follows_done_self _ _ _

theorem follows_pageFetched (s : State) (ref : SlotRef) (page : Option (List Byte)) :
    Follows i s (s.pageFetched ref page) := .frame (by simp)

theorem follows_judgeFull (s : State) : Follows i s s.judgeFull := .frame (by simp)

theorem follows_pageDone (s : State) : Follows i s s.pageDone := by
  refine (Follows.one (t := s.withJournal s.journal.pageWritten) (by simp) fun b => ?_).trans
    ((follows_judgeFull _).trans ((follows_grantPlaces _).trans (follows_judgePage _)))
  have e : (s.withJournal s.journal.pageWritten).tables b = { s.tables b with
      buffer := (s.tables b).buffer.drop s.journal.carried, counter := s.journal.counter + 1 } := by
    simp [State.tables, Journal.pageWritten, Journal.kept, List.map_drop]
  rw [e]
  exact .page _ _ (Nat.le_succ _)

theorem follows_pageFault (s : State) : Follows i s s.pageFault := by
  have h1 : Follows i s (s.withJournal s.journal.pageFaulted) :=
    .one (by simp) fun b => .page 0 (s.journal.counter + 1) (Nat.le_succ _)
  unfold State.pageFault
  dsimp only
  refine h1.trans ((follows_judgeFull _).trans (Follows.trans ?_ (follows_judgePage _)))
  split
  · exact follows_grantPlaces _
  · exact .refl _

theorem follows_mediaError (s : State) (op : MediaOp) : Follows i s (s.mediaError op) := by
  unfold State.mediaError
  split
  · exact follows_request s _
  · exact follows_request s _
  · exact .frame (by simp)
  · exact follows_verifyFault s _ _
  · exact follows_pageFetched s _ _
  · exact follows_scrubFault s _
  · exact follows_pageFault s

end Sys2Proof.Machine
end

section
/-! SUPPORT. The rows that are no capsules, power and start-up, and the theorem that every command is a chain of moves. -/

namespace Sys2Proof.Machine

variable {i : Instr}

/-! ### Rows that answer the array or node memory -/

theorem leads_readFetchOk (data : List Byte) (s : State) : Leads i s (execReadFetchOk data s) := by
  have filled (ref : SlotRef) : Follows i s (s.readFetched ref data).complete :=
    (Follows.frame (t := s.readFetched ref data) (by simp)).trans (follows_complete _)
  unfold execReadFetchOk
  repeat' split
  all_goals first
    | exact .next (filled _)
    | exact .stay s

theorem leads_readFetchMediaError (s : State) : Leads i s (execReadFetchMediaError s) := by
  unfold execReadFetchMediaError
  split
  · exact .next ((Follows.frame (t := s.readFault _) (by simp)).trans (follows_complete _))
  · exact .stay s

theorem leads_readDmaComplete (n : Node) (slot : Nat) (s : State) : Leads i s (execReadDmaComplete n slot s) := by
  unfold execReadDmaComplete
  repeat' split
  all_goals exact .next (.frame (by simp))

theorem leads_readDmaFailed (n : Node) (slot placed : Nat) (s : State) :
    Leads i s (execReadDmaFailed n slot placed s) := by
  unfold execReadDmaFailed
  repeat' split
  all_goals exact .next (.frame (by simp))

theorem leads_verifyFetchOk (data : List Byte) (s : State) : Leads i s (execVerifyFetchOk data s) := by
  unfold execVerifyFetchOk
  repeat' split
  all_goals first
    | exact .next ((follows_verifyFetched s _ _ _).trans (follows_complete _))
    | exact .stay s

theorem leads_verifyFetchMediaError (s : State) : Leads i s (execVerifyFetchMediaError s) := by
  unfold execVerifyFetchMediaError
  split
  · exact .next ((follows_verifyFault s _ _).trans (follows_complete _))
  · exact .stay s

theorem leads_fetchComplete (n : Node) (slot : Nat) (l : List (List Byte)) (s : State) :
    Leads i s (execFetchComplete n slot l s) := by
  unfold execFetchComplete
  repeat' split
  all_goals first
    | exact .next (follows_fetched s _ _ _ _)
    | exact .stay s

theorem leads_fetchFailed (n : Node) (slot : Nat) (s : State) : Leads i s (execFetchFailed n slot s) := by
  unfold execFetchFailed
  repeat' split
  all_goals first
    | exact .next (follows_fetchFault s _ _)
    | exact .stay s

theorem leads_dmaReadTimeout (n : Node) (slot sent : Nat) (s : State) :
    Leads i s (execDmaReadTimeout n slot sent s) := by
  unfold execDmaReadTimeout
  repeat' split
  all_goals first
    | exact .next (follows_fetchFault s _ _)
    | exact .next (.frame (by simp))

theorem leads_appendProgramOk (s : State) : Leads i s (execAppendProgramOk s) := by
  unfold execAppendProgramOk
  split
  · exact .next ((follows_appendDone s _ _).trans (follows_complete _))
  · exact .stay s

theorem leads_appendProgramMediaError (s : State) : Leads i s (execAppendProgramMediaError s) := by
  unfold execAppendProgramMediaError
  split
  · exact .next ((follows_request s _).trans (follows_complete _))
  · exact .stay s

theorem leads_trailerOk (s : State) : Leads i s (execTrailerOk s) := by
  unfold execTrailerOk
  split
  · exact .next ((follows_trailerDone s _).trans (follows_complete _))
  · exact .stay s

theorem leads_trailerMediaError (s : State) : Leads i s (execTrailerMediaError s) := by
  unfold execTrailerMediaError
  split
  · exact .next ((follows_request s _).trans (follows_complete _))
  · exact .stay s

theorem leads_journalReadFetchDone (page : Option (List Byte)) (s : State) :
    Leads i s (execJournalReadFetchDone page s) := by
  unfold execJournalReadFetchDone
  repeat' split
  all_goals first
    | exact .next ((follows_pageFetched s _ _).trans (follows_complete _))
    | exact .stay s

theorem leads_journalWriteOk (s : State) : Leads i s (execJournalWriteOk s) := by
  unfold execJournalWriteOk
  split
  · exact .next ((follows_pageDone s).trans (follows_complete _))
  · exact .stay s

theorem leads_journalWriteMediaError (s : State) : Leads i s (execJournalWriteMediaError s) := by
  unfold execJournalWriteMediaError
  split
  · exact .next ((follows_pageFault s).trans (follows_complete _))
  · exact .stay s

theorem leads_scrubCompleteOk (s : State) : Leads i s (execScrubCompleteOk s) := by
  unfold execScrubCompleteOk
  split
  · exact .next ((follows_setStage s _).trans ((follows_request _ _).trans (follows_complete _)))
  · exact .stay s

theorem leads_scrubMediaError (s : State) : Leads i s (execScrubMediaError s) := by
  unfold execScrubMediaError
  split
  · exact .next ((follows_scrubFault s _).trans (follows_complete _))
  · exact .stay s

theorem leads_mediaAnswerLimit (s : State) : Leads i s (execMediaAnswerLimit s) := by
  unfold execMediaAnswerLimit
  repeat' split
  all_goals first
    | exact .next ((follows_mediaError s _).trans (follows_complete _))
    | exact .stay s

/-! ### Rows of the links, the engine, the clock and start-up's grants -/

theorem leads_capsuleWindowWrite (n : Node) (offset : Nat) (bytes : List Byte) (s : State) :
    Leads i s (execCapsuleWindowWrite n offset bytes s) := by
  unfold execCapsuleWindowWrite
  split
  · exact fun _ h => by cases h
  · split
    · exact .next (.frame (by simp))
    · exact .stay s

theorem leads_linkReset (n : Node) (s : State) : Leads i s (execLinkReset n s) := by
  unfold execLinkReset
  split
  · exact .next (follows_resetLink s n)
  · exact .stay s

theorem leads_linkUp (n : Node) (s : State) : Leads i s (execLinkUp n s) := by
  unfold execLinkUp
  split
  · exact .next (.frame (by simp))
  · exact .stay s

theorem leads_msiEnableWrite (n : Node) (e : Bool) (s : State) : Leads i s (execMsiEnableWrite n e s) := by
  unfold execMsiEnableWrite
  split
  · exact .next (.frame (by simp))
  · exact .stay s

theorem leads_noCapsule (r : ReceiptRead) (s : State) : Leads i s (execNoCapsule r s) := by
  unfold execNoCapsule
  repeat' split
  all_goals exact .next (.frame (by simp))

theorem leads_cportReceiptRead (addr : BitVec 7) (len : Nat) (s : State) :
    Leads i s (execCportReceiptRead addr len s) := by
  unfold execCportReceiptRead
  split
  · exact .next (.frame (by simp))
  · exact .stay s

theorem leads_cmodeSample (low : Bool) (s : State) : Leads i s (execCmodeSample low s) := by
  unfold execCmodeSample
  split
  · exact .next (.frame (by simp))
  · exact .stay s

theorem leads_roleChange (s : State) : Leads i s (execRoleChange s) := by
  unfold execRoleChange
  split
  · exact .next (.frame (by simp))
  · exact .stay s

theorem leads_tick (s : State) : Leads .tick s (execTick s) := by
  unfold execTick
  split
  · exact .next ((follows_tickClock s).trans (follows_judgeTick _))
  · exact .stay s

theorem leads_holdover (s : State) : Leads i s (execHoldover s) := by
  unfold execHoldover
  split
  · exact .next (follows_judgeHoldover s)
  · exact .stay s

theorem leads_partialPageTime (s : State) : Leads i s (execPartialPageTime s) := by
  unfold execPartialPageTime
  split
  · exact .next (follows_judgePage s)
  · exact .stay s

theorem leads_coalescedClockState (s : State) : Leads i s (execCoalescedClockState s) := by
  unfold execCoalescedClockState
  split
  · exact .next ((follows_grantMark s).trans (follows_judgePage _))
  · exact .stay s

theorem leads_headTake (s : State) : Leads i s (execHeadTake s) := by
  unfold execHeadTake
  split
  · exact .next (follows_takeHead s)
  · exact .stay s

theorem leads_readersDrained (s : State) : Leads i s (execReadersDrained s) := by
  unfold execReadersDrained
  repeat' split
  all_goals first
    | exact .next (follows_placeScrub s _)
    | exact .stay s

theorem leads_split (h : HandOver) (s : State) : Leads i s (execSplit h s) := by
  have taken : Follows i s (s.handOver h .split judgeSplit) := follows_handOver s h _ judgeSplit_follows
  unfold execSplit
  dsimp only
  refine .next ?_
  split
  · exact taken
  · exact taken.trans ((follows_askSplit _).trans (follows_judgeSince _ _))

theorem leads_splitTimeout (s : State) : Leads i s (execSplitTimeout s) := by
  unfold execSplitTimeout
  split
  · exact .next (follows_failSplit s _)
  · exact .stay s

theorem leads_recoveryVoid (s : State) : Leads i s (execRecoveryVoid s) := by
  unfold execRecoveryVoid
  split
  · exact .next (follows_grantPlace s _)
  · exact .stay s

theorem leads_start (s : State) : Leads i s (execStart s) := by
  unfold execStart
  split
  · exact .next (follows_grantPlace s _)
  · exact .stay s

theorem Leads.moves {s t : State} {o : Host.Outcome State Fault Refusal} (h : Leads i s o) (ht : o = .next t) :
    Moves i (s.tables s.live) (t.tables t.live) := by
  have f := h t ht
  rw [f.live]
  exact f.moves _

/-! ### Power and start-up -/

theorem Journal.kept_kept (j : Journal) : j.kept.kept = j.kept := by simp [Journal.kept]

/-- Whatever becomes of the rest, table memory survives, but for the disposal queue (00_scope.md section 4). -/
theorem moves_volatileReset (s : State) (p : Phase) (b : Bool) :
    Moves i (s.tables b) ((s.volatileReset p).tables false) := by
  have e : (s.volatileReset p).tables false = { s.tables b with ready := false, queue := [] } := by
    simp [State.tables, State.volatileReset, State.reset, Clock.reset, Journal.kept]
  rw [e]
  exact .single .lost

/-- The initialization of a part whose journal region fits (R184). -/
theorem initializeTables_some {s : State} {l : Loaded} {array base pages lost : Nat}
    (h : l.journalRegion (min array Config.numbersEnd) = some (base, pages, lost)) :
    s.initializeTables l array = { s with
      settings := { s.settings with
        skipped := s.settings.skipped + lost + (l.dataRegion (min array Config.numbersEnd) base pages).2.2 }
      storeMap := ⟨(l.dataRegion (min array Config.numbersEnd) base pages).1,
        (l.dataRegion (min array Config.numbersEnd) base pages).2.1,
        [Store.initial (l.dataRegion (min array Config.numbersEnd) base pages).1
          (l.dataRegion (min array Config.numbersEnd) base pages).2.1], none⟩
      classes := ⟨l.classes, false⟩
      holds := ⟨[], 0⟩
      et := ⟨[], 1, []⟩
      clock := Clock.reset 0
      journal := ⟨base, pages, [], 1, 0, 0, [], 0, none, []⟩
      marker := true } := by
  simp [State.initializeTables, h]

theorem initializeTables_none {s : State} {l : Loaded} {array : Nat}
    (h : l.journalRegion (min array Config.numbersEnd) = none) : s.initializeTables l array = s := by
  simp [State.initializeTables, h]

/-- The journal at recovery: a page that was cut off is FAULTED and used (R163). -/
def Journal.cutOff (j : Journal) : Journal :=
  { j with
    pageList := j.pageList.map PageEntry.recovered
    counter := j.counter + if j.pageList.any (·.isIssued) then 1 else 0 }

/-- The journal's recovery tells the space state afresh (R163). -/
theorem State.recoverJournal_cases (s : State) :
    s.recoverJournal = s.withJournal s.journal.cutOff ∨
      (∃ c m, s.recoverJournal = (s.withJournal s.journal.cutOff).raise c m) ∨
      s.recoverJournal = (s.withJournal s.journal.cutOff).exhaust := by
  unfold State.recoverJournal
  dsimp only
  generalize Journal.space _ = k
  split
  · exact .inl rfl
  · exact .inr (.inl ⟨_, _, rfl⟩)
  · exact .inr (.inr rfl)
  · exact .inr (.inl ⟨_, _, rfl⟩)

theorem follows_recoverJournal (s : State) : Follows i s s.recoverJournal := by
  have h1 : Follows i s (s.withJournal s.journal.cutOff) :=
    .one (by simp) fun b => .page 0 s.journal.cutOff.counter (Nat.le_add_right _ _)
  rcases s.recoverJournal_cases with h | ⟨c, m, h⟩ | h <;> rw [h]
  · exact h1
  · exact h1.trans (follows_raise _ _ _)
  · exact h1.trans (follows_exhaust _)

theorem goes_recovered (m : StoreMap) : List.Forall₂ Store.Goes m.stores m.recovered.stores :=
  goes_map _ fun _ => ⟨rfl, rfl, rfl, le_rfl, id, fun _ => Nat.zero_le _⟩

/-- The state from which the extents and the queue are recovered: the journal's recovery is done (R163). -/
def State.journalRecovered (s : State) : State := s.recoverJournal.judgePage

/-- The waiting requests of recovery: the interrupted extents, then the START record (R10, R163). -/
def State.recoveryWaits (s : State) : List PlaceRequest := s.interrupted.map .recovery ++ [.start]

/-- The extents after recovery (R10). -/
def State.extentsRecovered (s : State) : State :=
  s.withEt { s.et with records := s.et.records.map (Extent.recovered s.journal.exhausted) }

/-- What recovery leaves, field by field (R10, R35, R150, R163). -/
theorem recover_eq (s : State) (cause : Cause) (initialized : Bool) :
    s.recover cause initialized = { s.journalRecovered with
      engine := ⟨s.journalRecovered.rebuiltQueue, .idle⟩
      et := s.journalRecovered.extentsRecovered.et
      storeMap := s.journalRecovered.storeMap.recovered
      journal := { s.journalRecovered.journal with waits := s.journalRecovered.extentsRecovered.recoveryWaits }
      startup := ⟨cause, initialized, 0, s.journalRecovered.rebuiltQueue.length, s.journal.buffered,
        s.recoverJournal.journal.used⟩ } := by
  simp only [State.recover, State.journalRecovered, State.extentsRecovered, State.recoveryWaits, State.withEngine,
    State.withEt, State.withStoreMap, State.withJournal, State.withStartup, State.interrupted]

/-- Recovery rebuilds the queue and recovers extents and stores (R10, R35, R150). -/
theorem moves_recover (s : State) (cause : Cause) (initialized : Bool) :
    Moves i (s.tables false) ((s.recover cause initialized).tables true) := by
  have h2 : Moves i (s.tables false) (s.journalRecovered.tables false) :=
    ((follows_recoverJournal s).trans (follows_judgePage _)).moves false
  refine h2.trans ?_
  rw [recover_eq]
  generalize s.journalRecovered = u
  have h3 : Move i (u.tables false) { u.tables false with map := u.storeMap.recovered } :=
    .stores _ none (goes_recovered _) (by simp)
  have h4 := Move.rebuilt (i := i) (T := { u.tables false with map := u.storeMap.recovered }) u.journal.exhausted
  have hq : u.rebuiltQueue.map (·.ext) = if u.journal.exhausted then [] else
      (u.et.records.filter (fun r => r.state == .disposing)).map (·.number) := by
    unfold State.rebuiltQueue State.disposing
    split <;> simp [Function.comp_def]
  refine (Relation.ReflTransGen.single h3).tail ?_
  simp only [State.tables, Journal.kept, State.extentsRecovered, State.withEt_et, hq] at h4 ⊢
  exact h4

/-- The part when the loader has read the image: volatile state reset, settings and routes read (R183, R185). -/
def State.loaded (s : State) (env : StartEnv) : State :=
  ((s.volatileReset .startup).withSettings (loadImage s.marker env.image).settings).withRouter
    { EventRouter.reset with routes := (loadImage s.marker env.image).routes }

theorem startUp_marked {s : State} (cause : Cause) (env : StartEnv) (h : s.marker = true) :
    s.startUp cause env = (s.loaded env).recover cause false := by
  have hm : (s.volatileReset .startup).marker = true := h
  simp only [State.startUp, State.loaded, hm, h, State.withRouter_marker, State.withSettings_marker, if_true,
    Bool.not_true]
  rfl

/-- A blank part that can hold no journal region goes no further (R184). -/
theorem startUp_stays {s : State} (cause : Cause) (env : StartEnv) (h : s.marker = false)
    (hr : (loadImage false env.image).journalRegion (min env.arrayBlocks Config.numbersEnd) = none) :
    s.startUp cause env = s.loaded env := by
  have hm : (s.volatileReset .startup).marker = false := h
  simp only [State.startUp, State.loaded, hm, h, State.withRouter_marker, State.withSettings_marker,
    Bool.false_eq_true, if_false, initializeTables_none hr]
  rfl

theorem startUp_initializes {s : State} (cause : Cause) (env : StartEnv) (h : s.marker = false)
    {base pages lost : Nat} (hr : (loadImage false env.image).journalRegion (min env.arrayBlocks Config.numbersEnd) =
      some (base, pages, lost)) :
    s.startUp cause env =
      ((s.loaded env).initializeTables (loadImage false env.image) env.arrayBlocks).recover cause true := by
  have hm : (s.volatileReset .startup).marker = false := h
  have hi : ∀ u : State, (u.initializeTables (loadImage false env.image) env.arrayBlocks).marker = true := fun u => by
    rw [initializeTables_some hr]
  simp only [State.startUp, State.loaded, hm, h, State.withRouter_marker, State.withSettings_marker,
    Bool.false_eq_true, if_false, hi, if_true, Bool.not_false]
  rfl

/-- The three ways a start-up goes (R184). -/
theorem startUp_cases (s : State) (cause : Cause) (env : StartEnv) :
    s.marker = true ∧ s.startUp cause env = (s.loaded env).recover cause false ∨
      s.marker = false ∧ s.startUp cause env = s.loaded env ∨
      ∃ base pages lost, s.marker = false ∧
        (loadImage false env.image).journalRegion (min env.arrayBlocks Config.numbersEnd) = some (base, pages, lost) ∧
        s.startUp cause env =
          ((s.loaded env).initializeTables (loadImage false env.image) env.arrayBlocks).recover cause true := by
  cases hm : s.marker with
  | true => exact .inl ⟨rfl, startUp_marked cause env hm⟩
  | false =>
    cases hr : (loadImage false env.image).journalRegion (min env.arrayBlocks Config.numbersEnd) with
    | none => exact .inr (.inl ⟨rfl, startUp_stays cause env hm hr⟩)
    | some r =>
      obtain ⟨base, pages, lost⟩ := r
      exact .inr (.inr ⟨base, pages, lost, rfl, rfl, startUp_initializes cause env hm hr⟩)

theorem moves_startUp (s : State) (cause : Cause) (env : StartEnv) (b : Bool) :
    Moves i (s.tables b) ((s.startUp cause env).tables true) := by
  have hl : Moves i (s.tables b) ((s.loaded env).tables false) := moves_volatileReset s .startup b
  refine hl.trans ?_
  rcases startUp_cases s cause env with ⟨hm, h⟩ | ⟨hm, h⟩ | ⟨base, pages, lost, hm, hr, h⟩ <;> rw [h]
  · exact moves_recover _ cause _
  · exact .single (.stays hm)
  · refine Relation.ReflTransGen.trans ?_ (moves_recover _ cause _)
    rw [initializeTables_some hr]
    exact .single (.initialized _ _ _ hm)

theorem phase_recover (s : State) (cause : Cause) (initialized : Bool) :
    (s.recover cause initialized).phase = s.phase := by
  have h : s.journalRecovered.phase = s.phase := by
    unfold State.journalRecovered
    rcases s.recoverJournal_cases with h | ⟨c, m, h⟩ | h <;> simp [h]
  rw [recover_eq, ← h]

theorem phase_startUp (s : State) (cause : Cause) (env : StartEnv) : (s.startUp cause env).phase = .startup := by
  rcases startUp_cases s cause env with ⟨_, h⟩ | ⟨_, h⟩ | ⟨base, pages, lost, _, hr, h⟩ <;> rw [h]
  · rw [phase_recover]; rfl
  · rfl
  · rw [phase_recover, initializeTables_some hr]; rfl

theorem live_startUp (s : State) (cause : Cause) (env : StartEnv) : (s.startUp cause env).live = true := by
  simp [State.live, phase_startUp]

theorem moves_powerOn {s t : State} {env : StartEnv} (h : execPowerOn env s = .next t) :
    Moves i (s.tables s.live) (t.tables t.live) := by
  unfold execPowerOn at h
  split at h <;> cases h
  · rw [live_startUp]; exact moves_startUp s _ env _
  · exact .refl

theorem moves_resetNRelease {s t : State} {env : StartEnv} (h : execResetNRelease env s = .next t) :
    Moves i (s.tables s.live) (t.tables t.live) := by
  unfold execResetNRelease at h
  split at h <;> cases h
  · rw [live_startUp]; exact moves_startUp s _ env _
  · exact .refl

theorem moves_resetNAssert {s t : State} (h : execResetNAssert s = .next t) :
    Moves i (s.tables s.live) (t.tables t.live) := by
  unfold execResetNAssert at h
  split at h <;> cases h
  · exact moves_volatileReset s .held _
  · exact .refl

theorem moves_powerLoss {s t : State} (h : execPowerLoss s = .next t) :
    Moves i (s.tables s.live) (t.tables t.live) := by
  cases h
  exact moves_volatileReset s .off _

/-! ### Every command -/

/-- What a command does to table memory is a chain of moves. -/
theorem exec_moves {s t : State} (h : exec i s = .next t) : Moves i (s.tables s.live) (t.tables t.live) := by
  cases i with
  | powerOn env => exact moves_powerOn h
  | resetNAssert => exact moves_resetNAssert h
  | resetNRelease env => exact moves_resetNRelease h
  | powerLoss => exact moves_powerLoss h
  | recoveryVoid => exact (leads_recoveryVoid s).moves h
  | start => exact (leads_start s).moves h
  | linkReset n => exact (leads_linkReset n s).moves h
  | linkUp n => exact (leads_linkUp n s).moves h
  | msiEnableWrite n e => exact (leads_msiEnableWrite n e s).moves h
  | capsuleWindowWrite n o l => exact (leads_capsuleWindowWrite n o l s).moves h
  | noCapsule r => exact (leads_noCapsule r s).moves h
  | badKind x => exact (Leads.next (Follows.frame (t := s.refuseKind x) (by simp))).moves h
  | cportPartialCapsule a l => exact (Leads.stay s).moves h
  | cportReceiptRead a n => exact (leads_cportReceiptRead a n s).moves h
  | roleChange => exact (leads_roleChange s).moves h
  | openExtent x => exact (Leads.next (follows_handOver s x _ judgeOpen_follows)).moves h
  | append x => exact (Leads.next (follows_handOver s x _ judgeAppend_follows)).moves h
  | close x => exact (Leads.next (follows_handOver s x _ judgeClose_follows)).moves h
  | abandon x => exact (Leads.next (follows_handOver s x _ judgeAbandon_follows)).moves h
  | read x => exact (Leads.next (follows_handOver s x _ judgeRead_follows)).moves h
  | verify x => exact (Leads.next (follows_handOver s x _ judgeVerify_follows)).moves h
  | query x => exact (Leads.next (follows_handOver s x _ judgeQuery_follows)).moves h
  | find x => exact (Leads.next (follows_handOver s x _ judgeFind_follows)).moves h
  | status x => exact (Leads.next (follows_handOver s x _ judgeStatus_follows)).moves h
  | window x => exact (Leads.next (follows_handOver s x _ judgeWindow_follows)).moves h
  | time x => exact (Leads.next (follows_handOver s x _ judgeTime_follows)).moves h
  | events x => exact (Leads.next (follows_handOver s x _ judgeEvents_follows)).moves h
  | dispose x => exact (Leads.next (follows_handOver s x _ judgeDispose_follows)).moves h
  | holdPlace x => exact (Leads.next (follows_handOver s x _ (judgeHoldPlace_follows x))).moves h
  | holdLift x => exact (Leads.next (follows_handOver s x _ (judgeHoldLift_follows x))).moves h
  | holdList x => exact (Leads.next (follows_handOver s x _ judgeHoldList_follows)).moves h
  | extend x => exact (Leads.next (follows_handOver s x _ judgeExtend_follows)).moves h
  | classSet x => exact (Leads.next (follows_handOver s x _ (judgeClassSet_follows x))).moves h
  | classGet x => exact (Leads.next (follows_handOver s x _ judgeClassGet_follows)).moves h
  | policyFix x => exact (Leads.next (follows_handOver s x _ (judgePolicyFix_follows x))).moves h
  | adopt x => exact (Leads.next (follows_handOver s x _ (judgeAdopt_follows x))).moves h
  | route x => exact (Leads.next (follows_handOver s x _ judgeRoute_follows)).moves h
  | split x => exact (leads_split x s).moves h
  | journalRead x => exact (Leads.next (follows_handOver s x _ judgeJournalRead_follows)).moves h
  | tick => exact (leads_tick s).moves h
  | openTimeoutDue k => exact (Leads.next (follows_judgeTimer s k)).moves h
  | openTimeout k => exact (Leads.next (follows_grantPlace s _)).moves h
  | splitTimeout => exact (leads_splitTimeout s).moves h
  | holdover => exact (leads_holdover s).moves h
  | partialPageTime => exact (leads_partialPageTime s).moves h
  | mediaAnswerLimit => exact (leads_mediaAnswerLimit s).moves h
  | dmaReadTimeout n k m => exact (leads_dmaReadTimeout n k m s).moves h
  | fetchComplete n k l => exact (leads_fetchComplete n k l s).moves h
  | fetchFailed n k => exact (leads_fetchFailed n k s).moves h
  | appendProgramOk => exact (leads_appendProgramOk s).moves h
  | appendProgramMediaError => exact (leads_appendProgramMediaError s).moves h
  | trailerOk => exact (leads_trailerOk s).moves h
  | trailerMediaError => exact (leads_trailerMediaError s).moves h
  | mediaFaultVoid k => exact (Leads.next (follows_grantPlace s _)).moves h
  | readFetchOk l => exact (leads_readFetchOk l s).moves h
  | readFetchMediaError => exact (leads_readFetchMediaError s).moves h
  | readDmaComplete n k => exact (leads_readDmaComplete n k s).moves h
  | readDmaFailed n k m => exact (leads_readDmaFailed n k m s).moves h
  | verifyFetchOk l => exact (leads_verifyFetchOk l s).moves h
  | verifyFetchMediaError => exact (leads_verifyFetchMediaError s).moves h
  | integrityRecord ref => exact (Leads.next (follows_grantPlace s _)).moves h
  | journalReadFetchDone p => exact (leads_journalReadFetchDone p s).moves h
  | headTake => exact (leads_headTake s).moves h
  | readersDrained => exact (leads_readersDrained s).moves h
  | scrubCompleteOk => exact (leads_scrubCompleteOk s).moves h
  | disposed => exact (Leads.next (follows_grantPlace s _)).moves h
  | scrubMediaError => exact (leads_scrubMediaError s).moves h
  | disposalFailed => exact (Leads.next (follows_grantPlace s _)).moves h
  | splitApply => exact (Leads.next (follows_grantPlace s _)).moves h
  | journalWriteOk => exact (leads_journalWriteOk s).moves h
  | journalWriteMediaError => exact (leads_journalWriteMediaError s).moves h
  | coalescedClockState => exact (leads_coalescedClockState s).moves h
  | cmodeSample low => exact (leads_cmodeSample low s).moves h

end Sys2Proof.Machine
end

section
/-! SUPPORT. Every move keeps the invariants of table memory: the extent table, the Key Index, the disposal queue, the
stores and the open extents. -/

namespace Sys2Proof.Machine

variable {i : Instr}

/-! ### Looking up records of a sound table -/

theorem find_number {t : ExtentTable} {n : Nat} {r : Extent} (h : t.find n = some r) : r.number = n := by
  simpa using List.find?_some h

theorem find_mem {t : ExtentTable} {n : Nat} {r : Extent} (h : t.find n = some r) : r ∈ t.records :=
  List.mem_of_find?_eq_some h

/-- In a list in increasing numbers, a record is found under its own number. -/
theorem find?_of_ordered {l : List Extent} (h : (l.map (·.number)).Pairwise (· < ·)) {r : Extent} (hr : r ∈ l) :
    l.find? (fun x => x.number == r.number) = some r := by
  induction l with
  | nil => cases hr
  | cons a l ih =>
    simp only [List.map_cons, List.pairwise_cons, List.mem_map, forall_exists_index, and_imp,
      forall_apply_eq_imp_iff₂] at h
    rcases List.mem_cons.1 hr with rfl | hl
    · simp
    · have hne : a.number ≠ r.number := (h.1 r hl).ne
      simp [hne, ih h.2 hl]

theorem ExtentTable.Sound.find_of_mem {t : ExtentTable} (h : t.Sound) {r : Extent} (hr : r ∈ t.records) :
    t.find r.number = some r := find?_of_ordered h.order hr

/-- A record with the number of a found one is the found one. -/
theorem ExtentTable.Sound.eq_of_find {t : ExtentTable} (h : t.Sound) {x r : Extent} {n : Nat} (hx : x ∈ t.records)
    (hf : t.find n = some r) (hn : x.number = n) : x = r := by
  have := h.find_of_mem hx
  rw [hn, hf] at this
  exact (Option.some.inj this).symm

/-- The table after a change of every record. -/
def ExtentTable.mapAll (t : ExtentTable) (g : Extent → Extent) : ExtentTable := { t with records := t.records.map g }

theorem ExtentTable.mod_eq_mapAll (t : ExtentTable) (n : Nat) (f : Extent → Extent) :
    t.mod n f = t.mapAll (Extent.changeAt n f) := rfl

/-- What `mod` does to each record of a sound table in which `r` is found: `f` to `r`, nothing to the others. -/
theorem changeAt_cases {t : ExtentTable} (h : t.Sound) {r : Extent} (f : Extent → Extent)
    (hf : t.find r.number = some r) {x : Extent} (hx : x ∈ t.records) :
    (x = r ∧ Extent.changeAt r.number f x = f r) ∨
      (x.number ≠ r.number ∧ Extent.changeAt r.number f x = x) := by
  by_cases e : x.number = r.number
  · have := h.eq_of_find hx hf e
    exact .inl ⟨this, by simp [Extent.changeAt, this]⟩
  · exact .inr ⟨e, by simp [Extent.changeAt, e]⟩

theorem keeps_changeAt {f : Extent → Extent} (hf : Extent.Keeps f) (n : Nat) : Extent.Keeps (Extent.changeAt n f) := by
  refine ⟨fun r => ?_, fun r => ?_, fun r => ?_⟩ <;> unfold Extent.changeAt <;> split
  exacts [hf.number r, rfl, hf.key r, rfl, hf.store r, rfl]

theorem find_mapAll {t : ExtentTable} {g : Extent → Extent} (hg : ∀ r, (g r).number = r.number) (n : Nat) :
    (t.mapAll g).find n = (t.find n).map g := find?_map_number t.records g hg n

/-! ### The extent table -/

/-- The invariant reads the next number and the numbers of the records alone. -/
theorem ExtentTable.Sound.of_numbers {t u : ExtentTable} (h : t.Sound) (hn : u.next = t.next)
    (hr : u.records.map (·.number) = t.records.map (·.number)) : u.Sound where
  next := hn ▸ h.next
  bound := hn ▸ h.bound
  order := hr ▸ h.order
  assigned r hm := by
    have : r.number ∈ t.records.map (·.number) := hr ▸ List.mem_map_of_mem hm
    obtain ⟨x, hx, e⟩ := List.mem_map.1 this
    have := h.assigned x hx
    rw [hn, ← e]
    exact this
  count := by
    have := congrArg List.length hr
    simp only [List.length_map] at this
    rw [this]
    exact h.count

theorem ExtentTable.Sound.mapAll {t : ExtentTable} (h : t.Sound) {g : Extent → Extent}
    (hg : ∀ r, (g r).number = r.number) : (t.mapAll g).Sound :=
  h.of_numbers rfl (by simp [ExtentTable.mapAll, Function.comp_def, hg])

theorem without_sublist (t : ExtentTable) (x : Option Extent) : (t.without x).records.Sublist t.records := by
  cases x with
  | none => exact List.Sublist.refl _
  | some y => exact List.filter_sublist

/-- After an eviction, or with room before, there is room for one more record (R15, R16). -/
theorem without_room {t : ExtentTable} (h : t.Sound) {x : Option Extent}
    (gone : ∀ y ∈ x, y ∈ t.records ∧ y.tombstone = true) (room : x = none → t.records.length < Config.maxRecords) :
    (t.without x).records.length < Config.maxRecords := by
  cases x with
  | none => exact room rfl
  | some y =>
    refine Nat.lt_of_lt_of_le ?_ h.count
    exact List.length_filter_lt_length_iff_exists.2 ⟨y, (gone y rfl).1, by simp⟩

theorem opened_sound {t : ExtentTable} (h : t.Sound) {x : Option Extent} {r : Extent} (k : List (Nat × Nat))
    (gone : ∀ y ∈ x, y ∈ t.records ∧ y.tombstone = true) (room : x = none → t.records.length < Config.maxRecords)
    (number : r.number = t.next) (bound : t.next < Config.numbersEnd) :
    ExtentTable.Sound ⟨(t.without x).records ++ [r], t.next + 1, k⟩ where
  next := Nat.le_add_left 1 _
  bound := bound
  order := by
    rw [List.map_append, List.map_singleton, List.pairwise_append]
    refine ⟨h.order.sublist ((without_sublist t x).map _), List.pairwise_singleton _ _, ?_⟩
    intro a ha b hb
    obtain ⟨y, hy, rfl⟩ := List.mem_map.1 ha
    rw [List.mem_singleton.1 hb, number]
    exact (h.assigned y ((without_sublist t x).subset hy)).2
  assigned y hy := by
    rcases List.mem_append.1 hy with hy | hy
    · have := h.assigned y ((without_sublist t x).subset hy)
      exact ⟨this.1, Nat.lt_succ_of_lt this.2⟩
    · rw [List.mem_singleton.1 hy, number]
      exact ⟨h.next, Nat.lt_succ_self _⟩
  count := by
    have := without_room h gone room
    simp only [List.length_append, List.length_singleton]
    exact this

theorem blank_sound : ExtentTable.Sound ⟨[], 1, []⟩ where
  next := le_rfl
  bound := by decide
  order := List.Pairwise.nil
  assigned r hr := by cases hr
  count := Nat.zero_le _

/-- Every move keeps the extent table sound (R11, R15). -/
theorem Move.et_sound {T U : Tables} (m : Move i T U) (h : T.et.Sound) : U.et.Sound := by
  cases m with
  | touch n hf => exact h.mapAll (keeps_changeAt hf.toKeeps n).number
  | leave r k hf _ _ _ _ _ => exact (h.mapAll (keeps_changeAt hf r.number).number).of_numbers rfl rfl
  | unqueue r hf _ _ _ _ => exact h.mapAll (keeps_changeAt hf r.number).number
  | enqueue r hf _ _ _ => exact h.mapAll (keeps_changeAt hf r.number).number
  | opened x r st _ gone room number _ _ bound _ _ => exact opened_sound h _ gone room number bound
  | rebuilt e => exact h.mapAll (keeps_recovered e).number
  | initialized => exact blank_sound
  | _ => exact h

/-! ### The Key Index -/

/-- A change of the records that keeps numbers, keys and which are VOIDED keeps the Key Index. -/
theorem ExtentTable.KeysSound.mapAll {t : ExtentTable} (h : t.KeysSound) {g : Extent → Extent}
    (hn : ∀ r, (g r).number = r.number) (hk : ∀ r, (g r).key = r.key)
    (hv : ∀ r ∈ t.records, (g r).state = .voided ↔ r.state = .voided) : (t.mapAll g).KeysSound where
  distinct := h.distinct
  pairs k n := by
    rw [show (t.mapAll g).keys = t.keys from rfl, h.pairs]
    constructor
    · rintro ⟨r, hr, rfl, rfl, hs⟩
      exact ⟨g r, List.mem_map_of_mem hr, hn r, hk r, fun c => hs ((hv r hr).1 c)⟩
    · rintro ⟨_, hx, rfl, rfl, hs⟩
      obtain ⟨r, hr, rfl⟩ := List.mem_map.1 hx
      exact ⟨r, hr, (hn r).symm, (hk r).symm, fun c => hs ((hv r hr).2 c)⟩

/-- A record that becomes VOIDED takes its pair with it (R14). -/
theorem ExtentTable.KeysSound.voided {t : ExtentTable} (ht : t.Sound) (h : t.KeysSound) {r : Extent}
    {f : Extent → Extent} (found : t.find r.number = some r) (hv : (f r).state = .voided) :
    ExtentTable.KeysSound { t.mod r.number f with keys := t.keys.filter (fun p => p.2 != r.number) } where
  distinct := h.distinct.sublist (List.filter_sublist.map _)
  pairs k n := by
    simp only [List.mem_filter, h.pairs, bne_iff_ne, ne_eq]
    constructor
    · rintro ⟨⟨x, hx, rfl, rfl, hs⟩, hne⟩
      exact ⟨x, List.mem_map.2 ⟨x, hx, by simp [Extent.changeAt, hne]⟩, rfl, rfl, hs⟩
    · rintro ⟨y, hy, rfl, rfl, hs⟩
      obtain ⟨x, hx, rfl⟩ := List.mem_map.1 hy
      change (Extent.changeAt r.number f x).state ≠ .voided at hs
      change (∃ y ∈ t.records, y.number = (Extent.changeAt r.number f x).number ∧
        y.key = (Extent.changeAt r.number f x).key ∧ y.state ≠ .voided) ∧
        ¬(Extent.changeAt r.number f x).number = r.number
      rcases changeAt_cases ht f found hx with ⟨rfl, e⟩ | ⟨hne, e⟩
      · exact absurd hv (e ▸ hs)
      · rw [e] at hs ⊢
        exact ⟨⟨x, hx, rfl, rfl, hs⟩, hne⟩

/-- An eviction takes the pair of a RELEASED tombstone; a VOIDED one has none (R14, R17). -/
theorem ExtentTable.KeysSound.without {t : ExtentTable} (ht : t.Sound) (h : t.KeysSound) {x : Option Extent}
    (gone : ∀ y ∈ x, y ∈ t.records ∧ y.tombstone = true) : (t.without x).KeysSound := by
  cases x with
  | none => exact h
  | some y =>
    obtain ⟨hy, hd⟩ := gone y rfl
    have hk : ∀ p ∈ t.keys, p.2 = y.number → y.state = .released := by
      intro p hp e
      obtain ⟨r, hr, hn, _, hs⟩ := (h.pairs p.1 p.2).1 hp
      obtain rfl : r = y := ht.eq_of_find hr (ht.find_of_mem hy) (hn.trans e)
      cases hst : r.state <;> simp_all [Extent.tombstone]
    have e : (t.without (some y)).keys = t.keys.filter (fun p => p.2 != y.number) := by
      unfold ExtentTable.without
      dsimp only
      split
      · rfl
      · next hne =>
        refine (List.filter_eq_self.2 fun p hp => ?_).symm
        simpa using fun c => hne (hk p hp c)
    refine ⟨?_, fun k n => ?_⟩
    · rw [e]
      exact h.distinct.sublist (List.filter_sublist.map _)
    · rw [e]
      simp only [List.mem_filter, h.pairs, bne_iff_ne, ne_eq, ExtentTable.without]
      constructor
      · rintro ⟨⟨r, hr, rfl, rfl, hs⟩, hne⟩
        exact ⟨r, ⟨hr, hne⟩, rfl, rfl, hs⟩
      · rintro ⟨r, ⟨hr, hne⟩, rfl, rfl, hs⟩
        exact ⟨⟨r, hr, rfl, rfl, hs⟩, hne⟩

/-- A new record brings its pair (R12, R40). -/
theorem ExtentTable.KeysSound.opened {t : ExtentTable} (h : t.KeysSound) {r : Extent} {n : Nat} (hn : r.number = n)
    (fresh : r.key ∉ t.keys.map (·.1)) (state : r.state = .opened) (v : Nat) :
    ExtentTable.KeysSound ⟨t.records ++ [r], v, t.keys ++ [(r.key, n)]⟩ where
  distinct := by
    rw [List.map_append]
    exact List.nodup_append.2 ⟨h.distinct, List.nodup_singleton _, fun a ha b hb => by
      rw [List.map_singleton, List.mem_singleton] at hb
      rintro rfl
      rw [hb] at ha
      exact fresh ha⟩
  pairs k m := by
    simp only [List.mem_append, List.mem_singleton, h.pairs, Prod.mk.injEq]
    constructor
    · rintro (⟨x, hx, a, b, c⟩ | ⟨rfl, rfl⟩)
      · exact ⟨x, .inl hx, a, b, c⟩
      · exact ⟨r, .inr rfl, hn, rfl, by simp [state]⟩
    · rintro ⟨x, hx | rfl, a, b, c⟩
      · exact .inl ⟨x, hx, a, b, c⟩
      · exact .inr ⟨b.symm, a.symm.trans hn⟩

/-- Every move keeps the Key Index sound (R12). -/
theorem Move.keys_sound {T U : Tables} (m : Move i T U) (ht : T.et.Sound) (h : T.et.KeysSound) : U.et.KeysSound := by
  cases m with
  | touch n hf =>
    refine h.mapAll (keeps_changeAt hf.toKeeps n).number (keeps_changeAt hf.toKeeps n).key fun r _ => ?_
    unfold Extent.changeAt
    split
    · exact hf.voided r
    · rfl
  | @leave r k f hf found writing _ _ _ =>
    have hw : r.state ≠ .voided := fun c => by simp [Extent.writing, c] at writing
    dsimp only
    split
    · next hv => exact h.voided ht found hv
    · next hv =>
      refine h.mapAll (keeps_changeAt hf r.number).number (keeps_changeAt hf r.number).key fun x hx => ?_
      rcases changeAt_cases ht f found hx with ⟨rfl, e⟩ | ⟨_, e⟩ <;> rw [e]
      exact iff_of_false hv hw
  | @unqueue r f hf found disposing ends _ =>
    refine h.mapAll (keeps_changeAt hf r.number).number (keeps_changeAt hf r.number).key fun x hx => ?_
    rcases changeAt_cases ht f found hx with ⟨rfl, e⟩ | ⟨_, e⟩ <;> rw [e]
    refine iff_of_false (fun c => ?_) (by simp [disposing])
    rcases ends with hr | hr
    · simp [Extent.retained, c] at hr
    · simp [c] at hr
  | @enqueue r f hf found state begins =>
    refine h.mapAll (keeps_changeAt hf r.number).number (keeps_changeAt hf r.number).key fun x hx => ?_
    rcases changeAt_cases ht f found hx with ⟨rfl, e⟩ | ⟨_, e⟩ <;> rw [e]
    exact iff_of_false (by simp [begins]) (by rcases state with s | s <;> simp [s])
  | opened x r st _ gone _ number state fresh _ _ _ =>
    refine (h.without ht gone).opened number (fun c => fresh ?_) state _
    have hsub : (T.et.without x).keys.Sublist T.et.keys := by
      cases x with
      | none => exact List.Sublist.refl _
      | some y =>
        unfold ExtentTable.without
        dsimp only
        split
        · exact List.filter_sublist
        · exact List.Sublist.refl _
    exact (hsub.map _).subset c
  | rebuilt e =>
    refine h.mapAll (keeps_recovered e).number (keeps_recovered e).key fun r _ => ?_
    unfold Extent.recovered
    repeat' split
    all_goals simp_all
  | initialized => exact ⟨List.nodup_nil, fun k n => by simp⟩
  | _ => exact h

/-! ### The disposal queue -/

/-- The disposal queue against the extent table (R141). -/
structure Tables.QueueSound (T : Tables) : Prop where
  distinct : T.queue.Nodup
  disposing : ∀ n ∈ T.queue, ∃ r, T.et.find n = some r ∧ r.state = .disposing
  complete : T.ready = true → T.marker = true → ∀ r ∈ T.et.records, r.state = .disposing → r.number ∈ T.queue

/-- The part's queue is sound when its table memory's is. -/
theorem State.queueSound_iff (s : State) : s.QueueSound ↔ (s.tables s.live).QueueSound := by
  constructor
  · intro h
    exact ⟨h.distinct, fun n hn => by
      obtain ⟨e, he, rfl⟩ := List.mem_map.1 hn
      exact h.disposing e he, h.complete⟩
  · intro h
    exact ⟨h.distinct, fun e he => h.disposing e.ext (List.mem_map_of_mem he), h.complete⟩

/-- A change of the records that keeps numbers and which are DISPOSING keeps the queue. -/
theorem Tables.QueueSound.mapAll {T U : Tables} (h : T.QueueSound) {g : Extent → Extent}
    (hn : ∀ r, (g r).number = r.number) (hd : ∀ r ∈ T.et.records, (g r).state = .disposing ↔ r.state = .disposing)
    (hr : U.et.records = T.et.records.map g) (hq : U.queue = T.queue) (hl : U.ready = T.ready)
    (hm : U.marker = T.marker) : U.QueueSound where
  distinct := hq ▸ h.distinct
  disposing n hnq := by
    obtain ⟨r, hf, hs⟩ := h.disposing n (hq ▸ hnq)
    refine ⟨g r, ?_, (hd r (find_mem hf)).2 hs⟩
    have := find_mapAll (t := T.et) hn n
    rw [hf] at this
    rw [ExtentTable.find, hr]
    exact this
  complete a b x hx hs := by
    rw [hr] at hx
    obtain ⟨r, hm', rfl⟩ := List.mem_map.1 hx
    rw [hq, hn]
    exact h.complete (hl ▸ a) (hm ▸ b) r hm' ((hd r hm').1 hs)

/-- An extent that stops DISPOSING leaves the queue with it (R141). -/
theorem Tables.QueueSound.unqueue {T : Tables} (ht : T.et.Sound) (h : T.QueueSound) {r : Extent}
    {f : Extent → Extent} (hf : Extent.Keeps f) (found : T.et.find r.number = some r)
    (rests : (f r).state ≠ .disposing) :
    Tables.QueueSound { T with et := T.et.mod r.number f, queue := T.queue.filter (· != r.number) } where
  distinct := h.distinct.sublist List.filter_sublist
  disposing n hn := by
    obtain ⟨hn, hne⟩ := List.mem_filter.1 hn
    obtain ⟨x, hx, hs⟩ := h.disposing n hn
    refine ⟨x, ?_, hs⟩
    have e := find_mapAll (t := T.et) (keeps_changeAt hf r.number).number n
    rw [hx] at e
    rcases changeAt_cases ht f found (find_mem hx) with ⟨rfl, _⟩ | ⟨_, e'⟩
    · exact absurd (find_number hx).symm (by simpa using hne)
    · rw [Option.map_some, e'] at e
      exact e
  complete a b x hx hs := by
    obtain ⟨y, hy, rfl⟩ := List.mem_map.1 hx
    change (Extent.changeAt r.number f y).state = .disposing at hs
    change (Extent.changeAt r.number f y).number ∈ T.queue.filter (· != r.number)
    rcases changeAt_cases ht f found hy with ⟨rfl, e⟩ | ⟨hne, e⟩
    · exact absurd (e ▸ hs) rests
    · rw [e] at hs ⊢
      exact List.mem_filter.2 ⟨h.complete a b y hy hs, by simpa using hne⟩

/-- An extent that becomes DISPOSING joins the queue with it (R141). -/
theorem Tables.QueueSound.enqueue {T : Tables} (ht : T.et.Sound) (h : T.QueueSound) {r : Extent}
    {f : Extent → Extent} (hf : Extent.Keeps f) (found : T.et.find r.number = some r)
    (state : r.state ≠ .disposing) (begins : (f r).state = .disposing) :
    Tables.QueueSound { T with et := T.et.mod r.number f, queue := T.queue ++ [r.number] } where
  distinct := List.nodup_append.2 ⟨h.distinct, List.nodup_singleton _, fun a ha b hb c => by
    rw [List.mem_singleton.1 hb] at c
    obtain ⟨x, hx, hs⟩ := h.disposing a ha
    rw [c, found] at hx
    cases hx
    exact state hs⟩
  disposing n hn := by
    have e := find_mapAll (t := T.et) (keeps_changeAt hf r.number).number n
    rcases List.mem_append.1 hn with hn | hn
    · obtain ⟨x, hx, hs⟩ := h.disposing n hn
      rw [hx] at e
      refine ⟨_, e, ?_⟩
      rcases changeAt_cases ht f found (find_mem hx) with ⟨_, e'⟩ | ⟨_, e'⟩ <;> rw [e']
      · exact begins
      · exact hs
    · obtain rfl := List.mem_singleton.1 hn
      rw [found] at e
      exact ⟨_, e, by simpa [Extent.changeAt] using begins⟩
  complete a b x hx hs := by
    obtain ⟨y, hy, rfl⟩ := List.mem_map.1 hx
    change (Extent.changeAt r.number f y).state = .disposing at hs
    change (Extent.changeAt r.number f y).number ∈ T.queue ++ [r.number]
    rcases changeAt_cases ht f found hy with ⟨rfl, _⟩ | ⟨_, e⟩
    · rw [(keeps_changeAt hf _).number]
      exact List.mem_append.2 (.inr (List.mem_singleton_self _))
    · rw [e] at hs ⊢
      exact List.mem_append.2 (.inl (h.complete a b y hy hs))

/-- A found record that is no tombstone is found after an OPEN too. -/
theorem find_opened {t : ExtentTable} (ht : t.Sound) {x : Option Extent} {r : Extent}
    (gone : ∀ y ∈ x, y ∈ t.records ∧ y.tombstone = true) {n : Nat} {z : Extent} (hz : t.find n = some z)
    (alive : z.tombstone = false) (v : Nat) (k : List (Nat × Nat)) :
    ExtentTable.find ⟨(t.without x).records ++ [r], v, k⟩ n = some z := by
  have hw : (t.without x).records.find? (fun y => y.number == n) = some z := by
    have hzn := find_number hz
    subst hzn
    refine find?_of_ordered (ht.order.sublist ((without_sublist t x).map _)) ?_
    cases x with
    | none => exact find_mem hz
    | some y =>
      refine List.mem_filter.2 ⟨find_mem hz, ?_⟩
      simp only [bne_iff_ne, ne_eq]
      intro c
      obtain ⟨hy, hd⟩ := gone y rfl
      have := ht.eq_of_find (find_mem hz) (ht.find_of_mem hy) c
      simp [this, hd] at alive
  simp [ExtentTable.find, List.find?_append, hw]

/-- Every move keeps the disposal queue sound (R141). -/
theorem Move.queue_sound {T U : Tables} (m : Move i T U) (ht : T.et.Sound) (h : T.QueueSound) : U.QueueSound := by
  cases m with
  | touch n hf =>
    refine h.mapAll (keeps_changeAt hf.toKeeps n).number (fun r _ => ?_) rfl rfl rfl rfl
    unfold Extent.changeAt
    split
    · exact hf.disposing r
    · rfl
  | @leave r k f hf found writing _ _ rests =>
    refine h.mapAll (keeps_changeAt hf r.number).number (fun x hx => ?_) rfl rfl rfl rfl
    rcases changeAt_cases ht f found hx with ⟨rfl, e⟩ | ⟨_, e⟩ <;> rw [e]
    exact iff_of_false rests fun c => by simp [Extent.writing, c] at writing
  | unqueue r hf found _ _ rests => exact h.unqueue ht hf found rests
  | enqueue r hf found state begins =>
    exact h.enqueue ht hf found (by rcases state with s | s <;> simp [s]) begins
  | opened x r st _ gone _ _ state _ _ _ _ =>
    refine ⟨h.distinct, fun n hn => ?_, fun a b y hy hs => ?_⟩
    · obtain ⟨z, hz, hs⟩ := h.disposing n hn
      exact ⟨z, find_opened ht gone hz (by simp [Extent.tombstone, hs]) _ _, hs⟩
    · rcases List.mem_append.1 hy with hy | hy
      · exact h.complete a b y ((without_sublist _ x).subset hy) hs
      · rw [List.mem_singleton.1 hy, state] at hs
        cases hs
  | lost =>
    refine ⟨List.nodup_nil, fun n hn => ?_, fun a => ?_⟩
    · cases hn
    · cases a
  | rebuilt e =>
    cases e with
    | true =>
      refine ⟨List.nodup_nil, fun n hn => absurd hn List.not_mem_nil, fun _ _ x hx hs => ?_⟩
      obtain ⟨r, _, rfl⟩ := List.mem_map.1 hx
      unfold Extent.recovered at hs
      split at hs
      · cases hs
      · exact absurd hs ‹_›
    | false =>
      have hd : ∀ r : Extent, (r.recovered false).state = r.state := fun r => by
        unfold Extent.recovered
        split <;> rfl
      refine ⟨?_, fun n hn => ?_, fun _ _ x hx hs => ?_⟩
      · exact (ht.order.sublist (List.filter_sublist.map _)).imp (fun h => h.ne)
      · obtain ⟨r, hr, rfl⟩ := List.mem_map.1 hn
        obtain ⟨hr, hs⟩ := List.mem_filter.1 hr
        refine ⟨r.recovered false, ?_, by rw [hd]; simpa using hs⟩
        exact (find_mapAll (keeps_recovered false).number _).trans (by rw [ht.find_of_mem hr]; rfl)
      · obtain ⟨r, hr, rfl⟩ := List.mem_map.1 hx
        rw [hd] at hs
        exact List.mem_map.2 ⟨r, List.mem_filter.2 ⟨hr, by simpa using hs⟩, ((keeps_recovered false).number r).symm⟩
  | initialized =>
    refine ⟨List.nodup_nil, fun n hn => ?_, fun _ _ x hx => ?_⟩
    · cases hn
    · cases hx
  | stays blank => exact ⟨h.distinct, h.disposing, fun _ b => absurd b (by simp [blank])⟩
  | _ => exact ⟨h.distinct, h.disposing, h.complete⟩

end Sys2Proof.Machine
end

section
/-! SUPPORT. Every move keeps the stores, the open extents and the journal's chain, and nothing goes back; then the two
statements over every step. -/

namespace Sys2Proof.Machine

variable {i : Instr}

/-! ### The stores -/

/-- A change of a store that keeps its blocks and the bounds of its frontier and reservation. -/
structure Store.Fits (a b : Store) : Prop where
  base : b.base = a.base
  limit : b.limit = a.limit
  frontier : a.base ≤ a.frontier ∧ a.frontier ≤ a.limit → b.base ≤ b.frontier ∧ b.frontier ≤ b.limit
  reservation : a.reservation ≤ 32 → b.reservation ≤ 32

theorem Store.Goes.fits {a b : Store} (h : Store.Goes a b) : Store.Fits a b where
  base := h.base
  limit := h.limit
  frontier := fun ⟨l, u⟩ => ⟨h.base ▸ l.trans h.forward, h.within u⟩
  reservation := h.reservation

/-- Setting or clearing an open extent fits. -/
theorem fits_openExtent (l : List Store) (k : Nat) (v : Option Nat) :
    List.Forall₂ Store.Fits l (l.modify k (fun st => { st with openExtent := v })) := by
  have same (st : Store) : Store.Fits st st := ⟨rfl, rfl, id, id⟩
  induction l generalizing k with
  | nil => simp
  | cons a l ih =>
    cases k with
    | zero => exact .cons ⟨rfl, rfl, id, id⟩ (List.forall₂_same.2 fun x _ => same x)
    | succ k => exact .cons (same a) (ih k)

theorem tiles_fits {l m : List Store} (h : List.Forall₂ Store.Fits l m) (a b : Nat) : Tiles a b m ↔ Tiles a b l := by
  induction h generalizing a with
  | nil => rfl
  | cons hx _ ih => simp only [Tiles, hx.base, hx.limit, ih]

/-- The address order of the stores does not depend on what they hold. -/
theorem inOrder_fits {m n : StoreMap} (h : List.Forall₂ Store.Fits m.stores n.stores) :
    List.Forall₂ Store.Fits m.inOrder n.inOrder := by
  unfold StoreMap.inOrder
  generalize m.stores = l at h
  generalize n.stores = k at h
  rcases h with _ | ⟨h1, _ | ⟨h2, _ | ⟨h3, _ | ⟨h4, _ | ⟨h5, h6⟩⟩⟩⟩⟩
  · exact .nil
  · exact .cons h1 .nil
  · exact .cons h1 (.cons h2 .nil)
  · exact .cons h1 (.cons h2 (.cons h3 .nil))
  · exact .cons h1 (.cons h3 (.cons h2 (.cons h4 .nil)))
  · exact .cons h1 (.cons h2 (.cons h3 (.cons h4 (.cons h5 h6))))

/-- Stores that change within their blocks stay sound, with a split pending only where one may be (R23 to R27). -/
theorem StoreMap.Sound.fits {m n : StoreMap} (h : m.Sound) (hs : List.Forall₂ Store.Fits m.stores n.stores)
    (hb : n.regionBase = m.regionBase) (hz : n.regionSize = m.regionSize)
    (hp : n.split.isSome = true → m.split.isSome = true ∨ m.stores.length < 4) : n.Sound where
  count := hs.length_eq ▸ h.count
  ranges := by
    have key : ∀ l k, List.Forall₂ Store.Fits l k →
        (∀ st ∈ l, st.base ≤ st.frontier ∧ st.frontier ≤ st.limit ∧ st.reservation ≤ 32) →
        ∀ st ∈ k, st.base ≤ st.frontier ∧ st.frontier ≤ st.limit ∧ st.reservation ≤ 32 := by
      intro l k hlk
      induction hlk with
      | nil => exact fun _ st hst => absurd hst List.not_mem_nil
      | cons hx _ ih =>
        intro hl st hst
        obtain ⟨b, f, r⟩ := hl _ List.mem_cons_self
        rcases List.mem_cons.1 hst with rfl | hst
        · have := hx.frontier ⟨b, f⟩
          exact ⟨this.1, this.2, hx.reservation r⟩
        · exact ih (fun y hy => hl y (List.mem_cons_of_mem _ hy)) st hst
    exact key _ _ hs h.ranges
  cover hne := by
    rw [hb, hz]
    refine (tiles_fits (inOrder_fits hs) _ _).2 (h.cover fun c => hne ?_)
    rw [c] at hs
    exact List.forall₂_nil_left_iff.1 hs
  split hsp := by
    rw [← hs.length_eq]
    rcases hp hsp with hp | hp
    · exact h.split hp
    · have := h.count
      simp only [List.mem_cons, List.not_mem_nil, or_false] at this
      omega

theorem boundary_bounds {st : Store} (h : st.frontier ≤ st.limit) :
    st.frontier ≤ st.boundary ∧ st.boundary ≤ st.limit := by
  unfold Store.boundary
  omega

/-- Halving the stores keeps them sound (R24, R32). -/
theorem StoreMap.Sound.halved {m : StoreMap} (h : m.Sound) (hp : m.split.isSome = true) :
    StoreMap.Sound { m with stores := splitStores m.stores, split := none } where
  count := by
    have h2 := h.split hp
    have hc := h.count
    simp only [splitStores, List.length_append, List.length_map, List.mem_cons, List.not_mem_nil, or_false] at hc ⊢
    omega
  ranges st hst := by
    rcases List.mem_append.1 hst with hm | hm <;> obtain ⟨x, hx, rfl⟩ := List.mem_map.1 hm
    · obtain ⟨b, f, r⟩ := h.ranges x hx
      exact ⟨b, (boundary_bounds f).1, r⟩
    · obtain ⟨b, f, r⟩ := h.ranges x hx
      exact ⟨le_rfl, (boundary_bounds f).2, Nat.zero_le _⟩
  cover _ := by
    have h2 := h.split hp
    have hcov := h.cover
    obtain ⟨base, size, stores, split⟩ := m
    match stores, h2 with
    | [], _ => exact absurd rfl ‹_›
    | [a], _ =>
      have := hcov (by simp)
      simp only [StoreMap.inOrder, Tiles] at this
      simpa [StoreMap.inOrder, splitStores, Tiles, Store.lower, Store.upper] using this
    | [a, b], _ =>
      have := hcov (by simp)
      simp only [StoreMap.inOrder, Tiles] at this
      simpa [StoreMap.inOrder, splitStores, Tiles, Store.lower, Store.upper] using this
  split hs := by cases hs

theorem initial_sound (base size : Nat) : StoreMap.Sound ⟨base, size, [Store.initial base size], none⟩ where
  count := by simp
  ranges st hst := by
    rw [List.mem_singleton.1 hst]
    exact ⟨le_rfl, Nat.le_add_right _ _, Nat.zero_le _⟩
  cover _ := ⟨rfl, rfl⟩
  split hs := by cases hs

/-- Every move keeps the Store Map sound (R23 to R25, R27). -/
theorem Move.map_sound {T U : Tables} (m : Move i T U) (h : T.map.Sound) : U.map.Sound := by
  cases m with
  | leave => exact h.fits (fits_openExtent _ _ _) rfl rfl .inl
  | opened => exact h.fits (fits_openExtent _ _ _) rfl rfl .inl
  | stores l p goes pending => exact h.fits (goes.imp fun _ _ g => g.fits) rfl rfl pending
  | split pending => exact h.halved pending
  | initialized => exact initial_sound _ _
  | _ => exact h

/-! ### The open extents -/

/-- The stores' open extents against the extent table (R9, R26). -/
structure Tables.OpenSound (T : Tables) : Prop where
  writes : ∀ k st n, T.map.stores[k]? = some st → st.openExtent = some n →
    ∃ r, T.et.find n = some r ∧ r.writing = true ∧ r.store = k
  holds : ∀ r ∈ T.et.records, r.writing = true →
    ∃ st, T.map.stores[r.store]? = some st ∧ st.openExtent = some r.number

theorem State.openSound_iff (s : State) : s.OpenSound ↔ (s.tables s.live).OpenSound :=
  ⟨fun h => ⟨h.writes, h.holds⟩, fun h => ⟨h.writes, h.holds⟩⟩

/-- A change of the records that keeps numbers, stores and which are being written. -/
theorem Tables.OpenSound.mapAll {T U : Tables} (h : T.OpenSound) {g : Extent → Extent} (hg : Extent.Keeps g)
    (hw : ∀ r ∈ T.et.records, (g r).writing = r.writing) (hr : U.et.records = T.et.records.map g)
    (hm : U.map = T.map) : U.OpenSound where
  writes k st n hst ho := by
    obtain ⟨r, hf, hwr, hs⟩ := h.writes k st n (hm ▸ hst) ho
    refine ⟨g r, ?_, (hw r (find_mem hf)).trans hwr, (hg.store r).trans hs⟩
    have := find_mapAll (t := T.et) hg.number n
    rw [hf] at this
    rw [ExtentTable.find, hr]
    exact this
  holds x hx hwx := by
    rw [hr] at hx
    obtain ⟨r, hr', rfl⟩ := List.mem_map.1 hx
    rw [hm, hg.store, hg.number]
    exact h.holds r hr' ((hw r hr').symm.trans hwx)

/-- Stores that change and keep their open extents. -/
theorem Tables.OpenSound.keep {T U : Tables} (h : T.OpenSound) (he : U.et = T.et)
    (hs : U.map.stores.map (·.openExtent) = T.map.stores.map (·.openExtent)) : U.OpenSound := by
  have get (k : Nat) : U.map.stores[k]?.map (·.openExtent) = T.map.stores[k]?.map (·.openExtent) := by
    rw [← List.getElem?_map, hs, List.getElem?_map]
  constructor
  · intro k st n hst ho
    have := get k
    rw [hst] at this
    obtain ⟨x, hx, hxo⟩ := Option.map_eq_some_iff.1 this.symm
    rw [he]
    exact h.writes k x n hx (hxo.trans ho)
  · intro r hr hw
    obtain ⟨st, hst, ho⟩ := h.holds r (he ▸ hr) hw
    have := get r.store
    rw [hst] at this
    obtain ⟨x, hx, hxo⟩ := Option.map_eq_some_iff.1 this
    exact ⟨x, hx, hxo.trans ho⟩

/-- An extent that stops being written lets its store go (R9). -/
theorem Tables.OpenSound.leave {T : Tables} (ht : T.et.Sound) (h : T.OpenSound) {r : Extent} {k : Nat}
    {f : Extent → Extent} (hf : Extent.Keeps f) (found : T.et.find r.number = some r) (writing : r.writing = true)
    (store : r.store = k ∨ ∃ st, T.map.stores[k]? = some st ∧ st.openExtent = some r.number)
    (ends : (f r).writing = false) (q : List (Nat × Nat)) :
    Tables.OpenSound { T with
      et := { T.et.mod r.number f with keys := q }
      map := { T.map with stores := T.map.stores.modify k (fun st => { st with openExtent := none }) } } := by
  have hk : r.store = k := by
    rcases store with e | ⟨st, hst, ho⟩
    · exact e
    · obtain ⟨x, hx, _, hs⟩ := h.writes k st _ hst ho
      rw [found] at hx
      cases hx
      exact hs
  subst hk
  constructor
  · intro k st n hst ho
    simp only [List.getElem?_modify] at hst
    obtain ⟨x, hx, rfl⟩ := Option.map_eq_some_iff.1 hst
    split at ho
    · cases ho
    · next hne =>
      obtain ⟨y, hy, hw, hs⟩ := h.writes k x n hx ho
      refine ⟨y, ?_, hw, hs⟩
      have e := find_mapAll (t := T.et) (keeps_changeAt hf r.number).number n
      rw [hy] at e
      rcases changeAt_cases ht f found (find_mem hy) with ⟨rfl, _⟩ | ⟨_, e'⟩
      · exact absurd hs hne
      · rw [Option.map_some, e'] at e
        exact e
  · intro x hx hw
    obtain ⟨y, hy, rfl⟩ := List.mem_map.1 hx
    rcases changeAt_cases ht f found hy with ⟨rfl, e⟩ | ⟨hne, e⟩
    · rw [e, ends] at hw
      cases hw
    · rw [e] at hw ⊢
      obtain ⟨st, hst, ho⟩ := h.holds y hy hw
      refine ⟨st, ?_, ho⟩
      have hsk : r.store ≠ y.store := by
        intro c
        obtain ⟨z, hz, hzo⟩ := h.holds r (find_mem found) writing
        rw [c, hst] at hz
        cases hz
        exact hne (Option.some.inj (ho.symm.trans hzo))
      simp [hst, hsk]

/-- A new extent is its store's open extent (R26, R40). -/
theorem Tables.OpenSound.opened {T : Tables} (ht : T.et.Sound) (h : T.OpenSound) {x : Option Extent} {r : Extent}
    {st : Store} (gone : ∀ y ∈ x, y ∈ T.et.records ∧ y.tombstone = true) (number : r.number = T.et.next)
    (state : r.state = .opened) (store : T.map.stores[r.store]? = some st) (idle : st.openExtent = none)
    (q : List (Nat × Nat)) :
    Tables.OpenSound { T with
      et := ⟨(T.et.without x).records ++ [r], T.et.next + 1, q⟩
      map := { T.map with
        stores := T.map.stores.modify r.store (fun st => { st with openExtent := some T.et.next }) } } := by
  have hw : r.writing = true := by simp [Extent.writing, state]
  constructor
  · intro k y n hy ho
    simp only [List.getElem?_modify] at hy
    obtain ⟨z, hz, rfl⟩ := Option.map_eq_some_iff.1 hy
    split at ho
    · next hk =>
      obtain rfl : T.et.next = n := Option.some.inj ho
      refine ⟨r, ?_, hw, hk⟩
      have none : (T.et.without x).records.find? (fun y => y.number == T.et.next) = none := by
        refine List.find?_eq_none.2 fun y hy => ?_
        have := (ht.assigned y ((without_sublist _ x).subset hy)).2
        simpa using this.ne
      simp [ExtentTable.find, List.find?_append, none, number]
    · obtain ⟨y, hy, hwy, hs⟩ := h.writes k z n hz ho
      refine ⟨y, find_opened ht gone hy ?_ _ _, hwy, hs⟩
      cases hst : y.state <;> simp_all [Extent.tombstone, Extent.writing]
  · intro y hy hwy
    rcases List.mem_append.1 hy with hy | hy
    · obtain ⟨z, hz, ho⟩ := h.holds y ((without_sublist _ x).subset hy) hwy
      have hne : r.store ≠ y.store := by
        intro c
        rw [← c, store] at hz
        cases hz
        rw [idle] at ho
        cases ho
      exact ⟨z, by simp [hz, hne], ho⟩
    · rw [List.mem_singleton.1 hy]
      exact ⟨{ st with openExtent := some T.et.next }, by simp [store], by rw [number]⟩

/-- The lower half of a store keeps its number (R32). -/
theorem splitStores_get {l : List Store} {k : Nat} {st : Store} (h : l[k]? = some st) :
    (splitStores l)[k]? = some st.lower := by
  have hlt : k < l.length := (List.getElem?_eq_some_iff.1 h).1
  rw [splitStores, List.getElem?_append_left (by simpa using hlt), List.getElem?_map, h]
  rfl

/-- Halving the stores: the lower halves keep the open extents, the upper ones have none (R32). -/
theorem Tables.OpenSound.halved {T : Tables} (h : T.OpenSound) :
    Tables.OpenSound { T with map := { T.map with stores := splitStores T.map.stores, split := none } } := by
  constructor
  · intro k st n hst ho
    simp only [splitStores, List.getElem?_append, List.length_map, List.getElem?_map] at hst
    split at hst
    · obtain ⟨x, hx, rfl⟩ := Option.map_eq_some_iff.1 hst
      exact h.writes k x n hx ho
    · obtain ⟨x, _, rfl⟩ := Option.map_eq_some_iff.1 hst
      cases ho
  · intro r hr hw
    obtain ⟨st, hst, ho⟩ := h.holds r hr hw
    exact ⟨st.lower, splitStores_get hst, ho⟩

theorem goes_openExtents {l k : List Store} (h : List.Forall₂ Store.Goes l k) :
    k.map (·.openExtent) = l.map (·.openExtent) := by
  induction h with
  | nil => rfl
  | cons hx _ ih => simp only [List.map_cons, hx.openExtent, ih]

/-- Every move keeps each store's open extent and the extents being written in step (R9, R26). -/
theorem Move.open_sound {T U : Tables} (m : Move i T U) (ht : T.et.Sound) (h : T.OpenSound) : U.OpenSound := by
  cases m with
  | touch n hf =>
    refine h.mapAll (keeps_changeAt hf.toKeeps n) (fun r _ => ?_) rfl rfl
    unfold Extent.changeAt
    split
    · exact hf.writing r
    · rfl
  | leave r k hf found writing store ends _ => exact h.leave ht hf found writing store ends _
  | @unqueue r f hf found disposing ends _ =>
    refine h.mapAll (keeps_changeAt hf r.number) (fun x hx => ?_) rfl rfl
    rcases changeAt_cases ht f found hx with ⟨rfl, e⟩ | ⟨_, e⟩ <;> rw [e]
    have hx : x.writing = false := by simp [Extent.writing, disposing]
    rw [hx]
    rcases ends with hr | hr
    · cases hst : (f x).state <;> simp_all [Extent.retained, Extent.writing]
    · simp [Extent.writing, hr]
  | @enqueue r f hf found state begins =>
    refine h.mapAll (keeps_changeAt hf r.number) (fun x hx => ?_) rfl rfl
    rcases changeAt_cases ht f found hx with ⟨rfl, e⟩ | ⟨_, e⟩ <;> rw [e]
    rcases state with s | s <;> simp [Extent.writing, begins, s]
  | opened x r st _ gone _ number state _ _ store idle => exact h.opened ht gone number state store idle _
  | stores l p goes _ => exact h.keep rfl (goes_openExtents goes)
  | split => exact h.halved
  | rebuilt e =>
    refine h.mapAll (keeps_recovered e) (fun r _ => ?_) rfl rfl
    unfold Extent.recovered
    repeat' split
    all_goals simp_all [Extent.writing]
  | initialized =>
    refine ⟨fun k st n hst ho => ?_, fun r hr => absurd hr List.not_mem_nil⟩
    rcases k with _ | k
    · cases hst
      cases ho
    · cases hst
  | _ => exact ⟨h.writes, h.holds⟩

/-! ### The journal's chain -/

/-- The journal's buffer is chained at archive seconds that have not run past their end (R90, R152 to R154). -/
structure Tables.JournalSound (T : Tables) : Prop where
  seconds : T.seconds ≤ Config.maxSeconds
  places : T.buffer.length ≤ Config.bufferPlaces
  chain : Chain T.nextSeq T.lastCheck T.seconds T.buffer

/-- The chain reads the records alone. -/
theorem chain_map_entered (n : Nat) (c : Word32) (now : Nat) (l : List BufEntry) :
    Chain n c now (l.map (fun e => { e with entered := 0 })) ↔ Chain n c now l := by
  induction l with
  | nil => rfl
  | cons a l ih => cases l <;> simp_all [Chain]

theorem State.journalSound_iff (s : State) (h : s.clock.seconds ≤ Config.maxSeconds) :
    s.JournalSound ↔ (s.tables s.live).JournalSound := by
  constructor
  · intro j
    exact ⟨h, by simpa [State.tables, Journal.kept] using j.places, (chain_map_entered _ _ _ _).2 j.chain⟩
  · intro j
    exact ⟨by simpa [State.tables, Journal.kept] using j.places, (chain_map_entered _ _ _ _).1 j.chain⟩

theorem Chain.later {n : Nat} {c : Word32} {now late : Nat} {l : List BufEntry} (h : Chain n c now l)
    (hle : now ≤ late) : Chain n c late l := by
  induction l with
  | nil => trivial
  | cons a l ih =>
    cases l with
    | nil => exact ⟨h.1, h.2.1, h.2.2.trans hle⟩
    | cons b l => exact ⟨h.1, h.2.1, h.2.2.1, ih h.2.2.2⟩

theorem Chain.tail {n : Nat} {c : Word32} {now : Nat} {a : BufEntry} {l : List BufEntry} (h : Chain n c now (a :: l)) :
    Chain n c now l := by
  cases l with
  | nil => trivial
  | cons b l => exact h.2.2.2

theorem Chain.drop {n : Nat} {c : Word32} {now : Nat} {l : List BufEntry} (h : Chain n c now l) (k : Nat) :
    Chain n c now (l.drop k) := by
  induction k generalizing l with
  | zero => exact h
  | succ k ih =>
    cases l with
    | nil => exact h
    | cons a l => exact ih h.tail

/-- The next record joins the chain (R152, R153). -/
theorem Chain.enter {n : Nat} {c : Word32} {now : Nat} {l : List BufEntry} (h : Chain n c now l) (o : Origin)
    (x : Subject) :
    Chain (n + 1) (chainedCheck c n now o x) now (l ++ [⟨⟨n, now, o, x, chainedCheck c n now o x⟩, 0⟩]) := by
  induction l with
  | nil => exact ⟨rfl, rfl, le_rfl⟩
  | cons a l ih =>
    cases l with
    | nil =>
      obtain ⟨hs, hc, ht⟩ := h
      exact ⟨hs.symm, ht, by rw [hc], rfl, rfl, le_rfl⟩
    | cons b l => exact ⟨h.1, h.2.1, h.2.2.1, ih h.2.2.2⟩

/-- Every move keeps the journal chained (R152 to R154). -/
theorem Move.journal_sound {T U : Tables} (m : Move i T U) (h : T.JournalSound) : U.JournalSound := by
  cases m with
  | enter o x room =>
    refine ⟨h.seconds, ?_, h.chain.enter o x⟩
    simp only [List.length_append, List.length_singleton]
    exact room
  | page n c _ =>
    refine ⟨h.seconds, ?_, h.chain.drop n⟩
    simp only [List.length_drop]
    exact (Nat.sub_le _ _).trans h.places
  | seconds v _ forward =>
    obtain ⟨hle, hmax⟩ := forward h.seconds
    exact ⟨hmax, h.places, h.chain.later hle⟩
  | initialized => exact ⟨Nat.zero_le _, Nat.zero_le _, trivial⟩
  | _ => exact ⟨h.seconds, h.places, h.chain⟩

/-! ### What never goes back -/

/-- What a chain of moves takes further at an initialized part (R11, R25, R90, R109, R152, R158, R184). -/
structure Tables.Ahead (T U : Tables) : Prop where
  marker : U.marker = true
  bound : U.seconds ≤ Config.maxSeconds
  seconds : T.seconds ≤ U.seconds
  latch : T.classes.fixed = true → U.classes.fixed = true
  next : T.et.next ≤ U.et.next
  sequence : T.nextSeq ≤ U.nextSeq
  pages : T.counter ≤ U.counter
  frontiers : ∀ (k : Nat) (st : Store), T.map.stores[k]? = some st →
    ∃ x : Store, U.map.stores[k]? = some x ∧ x.base = st.base ∧ st.frontier ≤ x.frontier

theorem Tables.Ahead.refl {T : Tables} (hm : T.marker = true) (hs : T.seconds ≤ Config.maxSeconds) : T.Ahead T :=
  ⟨hm, hs, le_rfl, id, le_rfl, le_rfl, le_rfl, fun _ st h => ⟨st, h, rfl, le_rfl⟩⟩

theorem Tables.Ahead.trans {T U V : Tables} (a : T.Ahead U) (b : U.Ahead V) : T.Ahead V where
  marker := b.marker
  bound := b.bound
  seconds := a.seconds.trans b.seconds
  latch h := b.latch (a.latch h)
  next := a.next.trans b.next
  sequence := a.sequence.trans b.sequence
  pages := a.pages.trans b.pages
  frontiers k st h := by
    obtain ⟨x, hx, hb, hf⟩ := a.frontiers k st h
    obtain ⟨y, hy, hb', hf'⟩ := b.frontiers k x hx
    exact ⟨y, hy, hb'.trans hb, hf.trans hf'⟩

theorem goes_get {l m : List Store} (h : List.Forall₂ Store.Goes l m) {k : Nat} {st : Store} (hk : l[k]? = some st) :
    ∃ x : Store, m[k]? = some x ∧ x.base = st.base ∧ st.frontier ≤ x.frontier := by
  induction h generalizing k with
  | nil => cases hk
  | cons hx _ ih =>
    cases k with
    | zero => cases hk; exact ⟨_, rfl, hx.base, hx.forward⟩
    | succ k => exact ih hk

theorem modify_openExtent_get (l : List Store) (j : Nat) (v : Option Nat) {k : Nat} {st : Store}
    (hk : l[k]? = some st) : ∃ x : Store, (l.modify j (fun st => { st with openExtent := v }))[k]? = some x ∧
      x.base = st.base ∧ st.frontier ≤ x.frontier := by
  refine ⟨if j = k then { st with openExtent := v } else st, ?_, ?_, ?_⟩
  · rw [List.getElem?_modify, hk]
    split <;> rfl
  · split <;> rfl
  · split <;> exact le_rfl

/-- No move at an initialized part takes anything back. -/
theorem Move.ahead {T U : Tables} (m : Move i T U) (hm : T.marker = true) (hs : T.seconds ≤ Config.maxSeconds) :
    T.Ahead U := by
  have a := Tables.Ahead.refl hm hs
  cases m with
  | enter => exact { a with sequence := Nat.le_succ _ }
  | page n c grows => exact { a with pages := grows }
  | leave => exact { a with frontiers := fun k st h => modify_openExtent_get _ _ _ h }
  | opened => exact { a with next := Nat.le_succ _, frontiers := fun k st h => modify_openExtent_get _ _ _ h }
  | stores l p goes _ => exact { a with frontiers := fun k st h => goes_get goes h }
  | split => exact { a with frontiers := fun k st h => ⟨st.lower, splitStores_get h, rfl, le_rfl⟩ }
  | seconds v _ forward => exact { a with bound := (forward hs).2, seconds := (forward hs).1 }
  | classes l _ latch => exact { a with latch := latch }
  | initialized _ _ _ blank => rw [hm] at blank; cases blank
  | stays blank => rw [hm] at blank; cases blank
  | _ => exact { a with }

theorem Moves.ahead {T U : Tables} (m : Moves i T U) (hm : T.marker = true) (hs : T.seconds ≤ Config.maxSeconds) :
    T.Ahead U := by
  induction m with
  | refl => exact .refl hm hs
  | tail _ m ih => exact ih.trans (m.ahead ih.marker ih.bound)

/-- While the latch is clear no move creates an extent (R39, R109). -/
theorem Move.no_extent {T U : Tables} (m : Move i T U) (h : T.classes.fixed = false → T.et.records = [])
    (hf : U.classes.fixed = false) : U.et.records = [] := by
  cases m with
  | touch n _ => simp [ExtentTable.mod, h hf]
  | leave => simp [ExtentTable.mod, h hf]
  | unqueue => simp [ExtentTable.mod, h hf]
  | enqueue => simp [ExtentTable.mod, h hf]
  | opened x r st fixed => rw [fixed] at hf; cases hf
  | classes l _ latch => exact h (by cases hx : T.classes.fixed <;> simp_all)
  | rebuilt => simp [h hf]
  | initialized => rfl
  | _ => exact h hf

theorem Moves.no_extent {T U : Tables} (m : Moves i T U) (h : T.classes.fixed = false → T.et.records = []) :
    U.classes.fixed = false → U.et.records = [] := by
  induction m with
  | refl => exact h
  | tail _ m ih => exact m.no_extent ih

/-- Which commands move archive seconds, holds and classes of an initialized part (R98, R102, R111, R113, R121). -/
structure Tables.Reserved (i : Instr) (T U : Tables) : Prop where
  marker : U.marker = true
  seconds : i ≠ .tick → (∀ h, i ≠ .adopt h) → U.seconds = T.seconds
  holds : (∀ h, i ≠ .holdPlace h ∧ i ≠ .holdLift h) → U.holds = T.holds
  classes : (∀ h, i ≠ .classSet h ∧ i ≠ .policyFix h) → U.classes = T.classes

theorem Move.reserved {T U : Tables} (m : Move i T U) (hm : T.marker = true) : T.Reserved i U := by
  cases m with
  | seconds v command _ =>
    refine ⟨hm, fun ht ha => ?_, fun _ => rfl, fun _ => rfl⟩
    rcases command with e | ⟨h, e⟩
    · exact absurd e ht
    · exact absurd e (ha h)
  | holds l command =>
    refine ⟨hm, fun _ _ => rfl, fun hh => ?_, fun _ => rfl⟩
    obtain ⟨h, e | e⟩ := command
    · exact absurd e (hh h).1
    · exact absurd e (hh h).2
  | classes l command _ =>
    refine ⟨hm, fun _ _ => rfl, fun _ => rfl, fun hc => ?_⟩
    obtain ⟨h, e | e⟩ := command
    · exact absurd e (hc h).1
    · exact absurd e (hc h).2
  | initialized _ _ _ blank => rw [hm] at blank; cases blank
  | _ => exact ⟨hm, fun _ _ => rfl, fun _ => rfl, fun _ => rfl⟩

theorem Moves.reserved {T U : Tables} (m : Moves i T U) (hm : T.marker = true) : T.Reserved i U := by
  induction m with
  | refl => exact ⟨hm, fun _ _ => rfl, fun _ => rfl, fun _ => rfl⟩
  | tail _ m ih =>
    have b := m.reserved ih.marker
    exact ⟨b.marker, fun x y => (b.seconds x y).trans (ih.seconds x y), fun x => (b.holds x).trans (ih.holds x),
      fun x => (b.classes x).trans (ih.classes x)⟩

/-- A property of table memory that every move keeps is kept by every chain of them. -/
theorem Moves.keep {P : Tables → Prop} (h : ∀ T U, Move i T U → P T → P U) {T U : Tables} (m : Moves i T U) (hp : P T) :
    P U := by
  induction m with
  | refl => exact hp
  | tail _ m ih => exact h _ _ m ih

/-- A step is a chain of moves of table memory under some command. -/
theorem step_moves {s t : State} (h : step s = .next t) : ∃ i, Moves i (s.tables s.live) (t.tables t.live) := by
  unfold step at h
  split at h
  · cases h
    exact ⟨.tick, .refl⟩
  · next c rest _ => exact ⟨c, exec_moves (s := s.withPending rest) h⟩

/-! ### The statements -/

/-- Settles O57: every step is a chain of moves, and no move takes anything back. -/
theorem tablesOnlyAdvance : Obligations.TablesOnlyAdvance := by
  refine ⟨fun s t hm hs h => ?_, fun s t hn h hf => ?_, fun i s t hm h => ?_⟩
  · obtain ⟨i, m⟩ := step_moves h
    have a := m.ahead hm hs
    exact ⟨a.seconds, a.latch, a.next, a.sequence, a.pages, a.frontiers, a.marker⟩
  · obtain ⟨i, m⟩ := step_moves h
    exact m.no_extent hn hf
  · have r := (exec_moves h).reserved hm
    exact ⟨r.seconds, r.holds, r.classes⟩

/-- Settles O60: every step is a chain of moves, and every move keeps each of the invariants. -/
theorem journalAndExtentTableAreKept : Obligations.JournalAndExtentTableAreKept := by
  intro s t h
  obtain ⟨i, m⟩ := step_moves h
  have et (hs : s.et.Sound) : t.et.Sound := m.keep (P := fun T => T.et.Sound) (fun _ _ m h => m.et_sound h) hs
  refine ⟨fun hc hj => ?_, et, fun hs hk => ?_, fun hs hq => ?_, fun hs => ?_, fun hs ho => ?_⟩
  · have j := m.keep (fun _ _ m h => m.journal_sound h) ((s.journalSound_iff hc.seconds).1 hj)
    exact (t.journalSound_iff j.seconds).2 j
  · exact (m.keep (P := fun T => T.et.Sound ∧ T.et.KeysSound)
      (fun _ _ m h => ⟨m.et_sound h.1, m.keys_sound h.1 h.2⟩) ⟨hs, hk⟩).2
  · exact t.queueSound_iff.2 (m.keep (P := fun T => T.et.Sound ∧ T.QueueSound)
      (fun _ _ m h => ⟨m.et_sound h.1, m.queue_sound h.1 h.2⟩) ⟨hs, s.queueSound_iff.1 hq⟩).2
  · exact m.keep (P := fun T => T.map.Sound) (fun _ _ m h => m.map_sound h) hs
  · exact t.openSound_iff.2 (m.keep (P := fun T => T.et.Sound ∧ T.OpenSound)
      (fun _ _ m h => ⟨m.et_sound h.1, m.open_sound h.1 h.2⟩) ⟨hs, s.openSound_iff.1 ho⟩).2

end Sys2Proof.Machine
end

section
/-! SUPPORT. What a record entered changes, and the voiding of an extent; then the statements about voided extents and
about the two rows that end start-up. -/

namespace Sys2Proof.Machine

/-! ### Entering a record -/

/-- Entering or counting a record changes the journal alone. -/
theorem State.record_eq_withJournal (s : State) (o : Origin) (x : Subject) :
    s.record o x = s.withJournal (s.record o x).journal := by
  unfold State.record
  split <;> rfl

@[simp] theorem State.record_waits (s : State) (o : Origin) (x : Subject) :
    (s.record o x).journal.waits = s.journal.waits := by
  unfold State.record
  split <;> rfl

/-- A record entered now has the next sequence, and one that would be counted has none (R152, R161). -/
theorem Journal.nextPlace_eq (j : Journal) :
    j.nextPlace = if j.buffer.length < 64 then some j.nextSeq else none := by
  unfold Journal.nextPlace Journal.hasPlace Journal.buffered
  simp only [decide_eq_true_eq]
  rfl

/-- Giving up the request that waits first. -/
theorem State.dropWait_head {s : State} {r : PlaceRequest} {rest : List PlaceRequest} (h : s.journal.waits = r :: rest) :
    s.dropWait r = s.withJournal { s.journal with waits := rest } := by
  simp [State.dropWait, h]

/-! ### Voiding -/

/-- An extent VOIDED with everything but what its quiet split may then do. -/
def State.voidedBy (s : State) (r : Extent) (o : Origin) (cause : VoidCause) : State :=
  { s with
    et := { s.et.mod r.number (Extent.void cause s.journal.nextPlace) with
      keys := s.et.keys.filter (fun p => p.2 != r.number) }
    storeMap := { s.storeMap with
      stores := s.storeMap.stores.modify r.store (fun st => { st with openExtent := none }) }
    write := s.write.set r.store ⟨.empty, .idle⟩
    journal := { (s.record o (r.voidSubject cause)).journal with
      waits := s.journal.waits.erase (.openTimeout r.store) } }

theorem voidExtent_of_writing {s : State} {r : Extent} (o : Origin) (cause : VoidCause) (h : r.writing = true) :
    s.voidExtent r o cause = (s.voidedBy r o cause).askSplit := by
  have e := s.record_eq_withJournal o (r.voidSubject cause)
  have w := s.record_waits o (r.voidSubject cause)
  unfold State.voidExtent State.voidedBy
  rw [if_pos h]
  generalize (s.record o (r.voidSubject cause)).journal = j at e w ⊢
  rw [e, ← w]
  rfl

theorem voidExtent_of_not_writing {s : State} {r : Extent} (o : Origin) (cause : VoidCause) (h : r.writing = false) :
    s.voidExtent r o cause = s := by
  unfold State.voidExtent
  rw [if_neg (by simp [h])]

/-- The record of the extent that is VOIDED (R5, R8). -/
theorem voidedBy_extent {s : State} {r : Extent} (o : Origin) (cause : VoidCause) (hr : s.extent r.number = some r)
    (h : r.writing = true) :
    (s.voidedBy r o cause).extent r.number = some { r with
      state := .voided, lastActivity := none, inFlight := none, running := none, voidCause := some cause
      dispSeq := if s.journal.buffer.length < 64 then some s.journal.nextSeq else none } := by
  have e := State.extent_modExtent_same s (keeps_void cause s.journal.nextPlace).number hr
  rw [show Extent.void cause s.journal.nextPlace r = { r with
    state := .voided, lastActivity := none, inFlight := none, running := none, voidCause := some cause
    dispSeq := s.journal.nextPlace } by simp [Extent.void, h], Journal.nextPlace_eq] at e
  rw [← e, ← Journal.nextPlace_eq]
  rfl

/-- No other record changes with it (R4). -/
theorem voidedBy_extent_other (s : State) {r : Extent} (o : Origin) (cause : VoidCause) {m : Nat}
    (h : m ≠ r.number) : (s.voidedBy r o cause).extent m = s.extent m :=
  State.extent_modExtent_other s (keeps_void cause s.journal.nextPlace).number h

theorem writing_iff (r : Extent) : r.writing = true ↔ r.state = .opened ∨ r.state = .closing := by
  cases h : r.state <;> simp [Extent.writing, h]

/-- Settles O25: the state before the split is asked for is `voidedBy`. -/
theorem voidedExtentLosesKeyAndStore : Obligations.VoidedExtentLosesKeyAndStore := by
  intro s r o cause
  refine ⟨fun ho hc => voidExtent_of_not_writing o cause ?_, fun hr hw => ?_⟩
  · exact Bool.eq_false_iff.2 fun h => ((writing_iff r).1 h).elim ho hc
  · have h := (writing_iff r).2 hw
    have hv := voidExtent_of_writing (s := s) o cause h
    refine ⟨s.voidedBy r o cause, hv, ?_, fun hs => ?_, voidedBy_extent o cause hr h,
      fun m hm => voidedBy_extent_other s o cause hm, rfl, rfl, rfl, rfl, rfl, rfl⟩
    · rw [hv]
      simp
    · rw [hv, State.askSplit_none (by exact hs)]

/-! ### The end of start-up -/

/-- Settles O7: both rows serve the request that waits first. -/
theorem startUpVoidsThenRecordsStart : Obligations.StartUpVoidsThenRecordsStart := by
  refine ⟨fun s n r rest hw hg hr => ?_, fun s rest hp hw hg => ?_⟩
  · have he : (s.withJournal { s.journal with waits := rest }).extent n = some r := hr
    show execRecoveryVoid s = _
    simp only [execRecoveryVoid, hw, List.head?_cons, State.grantPlace, hg, if_true, State.dropWait_head hw,
      State.settle, State.settleRecovery, he, State.withStartup, State.voidExtent_frame, State.withJournal_startup]
  · have hstart : exec .start s = .next (((s.withJournal { s.journal with waits := rest }).record .device
        (.start s.startup.cause s.startup.initialized s.clock.seconds s.clock.state s.startup.voided
          s.startup.requeued s.startup.found s.startup.pagesFound s.settings.skipped)).withPhase .running).judgePage := by
      show execStart s = _
      simp only [execStart, hw, List.head?_cons, State.grantPlace, hg, if_true, State.dropWait_head hw,
        State.settle, State.settleStart, State.withJournal_phase, hp]
      rfl
    refine ⟨hstart, fun t ht => ?_⟩
    rw [hstart] at ht
    cases ht
    refine ⟨by simp [State.taking], by simp, by simp, by simp, by simp, ?_⟩
    rw [(Aside.judgePage _).et.next]
    simp

end Sys2Proof.Machine
end

section
/-! SUPPORT. OPEN and CLOSE as the owner judges them: what a verdict reads is what it was before the hand-over cleared the
link's mark. -/

namespace Sys2Proof.Machine

/-! ### What the hand-over leaves to the owner -/

@[simp] theorem State.store_takeMark (s : State) (m : Master) : (s.takeMark m).store = s.store := by
  funext k
  simp [State.store]

@[simp] theorem State.classEntry_takeMark (s : State) (m : Master) : (s.takeMark m).classEntry = s.classEntry := by
  funext k
  simp [State.classEntry]

@[simp] theorem State.keyOwner_takeMark (s : State) (m : Master) : (s.takeMark m).keyOwner = s.keyOwner := by
  funext k
  simp [State.keyOwner]

@[simp] theorem State.evictee_takeMark (s : State) (m : Master) : (s.takeMark m).evictee = s.evictee := by
  simp [State.evictee]

/-! ### OPEN -/

theorem evictable_eq (flushed : Nat) :
    Extent.evictable flushed = fun r =>
      (r.state == .released || r.state == .voided) && r.dispSeq.any (fun q => decide (q < flushed)) := by
  funext r
  unfold Extent.evictable Extent.tombstone
  cases hs : r.state <;> cases hq : r.dispSeq <;> rfl

theorem classEntry_defined (s : State) (cls : Nat) :
    (s.classEntry cls).defined = s.classes.entries[cls]?.any (·.defined) := by
  unfold State.classEntry
  cases s.classes.entries[cls]? <;> rfl

/-- Settles O31: the owner's checks one after the other, on the state with the link's mark cleared. -/
theorem openIsJudgedAndTaken : Obligations.OpenIsJudgedAndTaken := by
  intro s h c n store cls group key hm R hk
  have e : exec (.openExtent h) s = .next ((s.takeMark c.master).conclude c
      (judgeOpen (Ctx.of s c []) (.openExtent store cls group key) (s.takeMark c.master))) :=
    congrArg _ (State.handOver_of_reaches R judgeOpen)
  rw [e]
  have no (code : Code) (fields : List Byte) := State.conclude_refuse s c code fields
  dsimp only [judgeOpen, Ctx.of]
  rw [hm] at no ⊢
  simp only [State.takeMark_frame, State.store_takeMark, State.classEntry_takeMark, classEntry_defined]
  by_cases hf : s.classes.fixed = true
  swap
  · simp [hf, no]
  rw [if_neg (by simp [hf]), if_neg (by simp [hf])]
  cases hst : s.store store with
  | none => simp [no]
  | some st =>
    dsimp only
    by_cases hb : st.state = .splitting ∨ st.openExtent.isSome = true
    · rw [if_pos (by simpa [Store.isSplitting] using hb), if_pos hb, no]
    rw [if_neg (by simpa [Store.isSplitting] using hb), if_neg hb]
    by_cases hfull : st.state = .full
    · rw [if_pos hfull, if_pos hfull, no]
    rw [if_neg hfull, if_neg hfull]
    by_cases hd : s.classes.entries[cls]?.any (·.defined) = false
    · rw [if_pos (by simp [hd]), if_pos hd, no]
    rw [if_neg (by simpa using hd), if_neg hd]
    by_cases hk0 : key = 0
    · rw [if_pos hk0, if_pos hk0, no]
    rw [if_neg hk0, if_neg hk0]
    by_cases hg : 4095 < group
    · rw [if_pos hg, if_pos hg, no]
    rw [if_neg hg, if_neg hg]
    unfold judgeOpenKey
    simp only [State.keyOwner_takeMark, State.extent_takeMark, State.takeMark_frame, State.evictee_takeMark]
    cases hown : s.keyOwner key with
    | some x =>
      obtain ⟨r, hr⟩ := Option.isSome_iff_exists.1 (hk x hown)
      simp only [hr, Option.bind_some, no, State.extent_number hr]
    | none =>
      simp only [Option.bind_none]
      rw [show Config.numbersEnd = 4294967296 from rfl, show Config.maxRecords = 32768 from rfl]
      by_cases hn : 4294967296 ≤ s.et.next
      · rw [if_pos hn, if_pos hn, no]
      rw [if_neg hn, if_neg hn]
      by_cases hl : s.et.records.length < 32768
      · rw [if_pos hl, if_pos hl, ← hm, State.conclude_done]
        simp only [State.create, State.modStore, State.setUnit, State.withEt, State.withStoreMap, State.withWrite,
          State.takeMark_frame]
        rfl
      rw [if_neg hl, if_neg hl]
      simp only [State.evictee, evictable_eq]
      generalize s.et.records.find? _ = found
      cases found with
      | none => simp [no]
      | some t =>
        dsimp only
        rw [← hm, State.conclude_done]
        simp only [State.create, State.evict, State.modStore, State.setUnit, State.withEt, State.withStoreMap,
          State.withWrite, State.takeMark_frame]
        rfl

end Sys2Proof.Machine
end

section
/-! SUPPORT. CLOSE, the trailer block and the commit (R48 to R52, R188). -/

namespace Sys2Proof.Machine

/-! ### Lengths of fields -/

@[simp] theorem le_length (n v : Nat) : (le n v).length = n := by
  induction n generalizing v with
  | zero => rfl
  | succ n ih => simp [le, ih]

@[simp] theorem padTo_length (n : Nat) (l : List Byte) : (padTo n l).length = n := by
  simp only [padTo, List.length_append, List.length_take, List.length_replicate]
  omega

/-- What opens the bytes opens the padded field, if it fits (R187). -/
theorem padTo_take {n k : Nat} {l : List Byte} (hk : k ≤ l.length) (hn : k ≤ n) : (padTo n l).take k = l.take k := by
  rw [padTo, List.take_append_of_le_length (by rw [List.length_take]; omega), List.take_take, min_eq_left hn]

/-! ### The trailer (R49, R188) -/

theorem trailerBody_length (r : Extent) (check : Word32) (seconds : Nat) (clock : ClockState) :
    (trailerBody r check seconds clock).length = 4092 := padTo_length _ _

theorem trailer_length (r : Extent) (check : Word32) (seconds : Nat) (clock : ClockState) :
    (trailer r check seconds clock).length = 4096 := by
  simp [trailer, trailerBody_length]

/-- The trailer opens with its marker (R188). -/
theorem trailer_marker (r : Extent) (check : Word32) (seconds : Nat) (clock : ClockState) :
    (trailer r check seconds clock).take 8 = trailerMarker := by
  have hb : (trailerBody r check seconds clock).take 8 = trailerMarker := by
    unfold trailerBody
    rw [padTo_take (by simp [trailerMarker]) (by omega)]
    simp only [List.append_assoc]
    exact List.take_left' rfl
  unfold trailer
  rw [List.take_append_of_le_length (by rw [trailerBody_length]; omega), hb]

/-- The trailer ends with the data check of what stands before it (R49, R188). -/
theorem trailer_check (r : Extent) (check : Word32) (seconds : Nat) (clock : ClockState) :
    (trailer r check seconds clock).drop 4092 =
      le 4 (dataCheck ((trailer r check seconds clock).take 4092)).toNat := by
  have hl := trailerBody_length r check seconds clock
  unfold trailer
  rw [List.drop_left' hl, List.take_left' hl]

/-! ### CLOSE -/

/-- A record that passes checks 2 to 7 of R42. -/
theorem writable_ok {s : State} {n : Nat} {r : Extent} (h1 : 1 ≤ n) (h2 : n < s.et.next) (he : s.extent n = some r)
    (ho : r.state = .opened) (hi : r.inFlight = some .nothing) : s.writable (.node r.opener) n = .ok r := by
  have hn : s.named n = .ok r := by
    unfold State.named
    rw [if_neg (by simp; omega), he]
  unfold State.writable
  rw [hn]
  simp [notOpener, ho, hi]

theorem closing_eq (n : Nat) :
    Extent.changeAt n Extent.closing = fun x =>
      if x.number = n ∧ x.state = .opened ∧ x.inFlight = some .nothing then
        { x with state := .closing, inFlight := some .close, lastActivity := none }
      else x := by
  funext x
  by_cases hn : x.number = n
  · simp [Extent.changeAt, Extent.closing, Extent.quietOpen, hn]
  · simp [Extent.changeAt, hn]

theorem commit_eq (n second : Nat) (clock : ClockState) :
    Extent.changeAt n (Extent.commit second clock) = fun x =>
      if x.number = n ∧ x.state = .closing then
        { x with
          state := .committed, lastActivity := none, inFlight := none, running := none
          commitSecond := some second, provisional := some clock.provisional
          check := some x.closingCheck, integrity := some .unverified }
      else x := by
  funext x
  by_cases hn : x.number = n
  · simp [Extent.changeAt, Extent.commit, hn]
  · simp [Extent.changeAt, hn]

theorem provisional_eq (c : ClockState) : c.provisional = decide (c = .unsynced ∨ c = .drift) := by
  cases c <;> rfl

/-- The state after a CLOSE is taken, but for its slot, field by field (R48, R49). -/
theorem beginClose_eq (s : State) (r : Extent) {st : Store} (hst : s.store r.store = some st) :
    s.beginClose r = ({ s with
      et := s.et.mod r.number Extent.closing
      write := s.write.set r.store ⟨.held (trailer r r.closingCheck s.clock.seconds s.clock.state), .idle⟩
      journal := { s.journal with waits := s.journal.waits.erase (.openTimeout r.store) } }).place
        ⟨.trailer r.store, some (.node r.opener), st.frontier, 1⟩ := by
  unfold State.beginClose
  rw [hst]
  rfl

/-- The end of a trailer program that commits its extent (R5, R50). -/
theorem trailerDone_eq {s : State} {k : Nat} {r : Extent} (hr : s.openRecord k = some r) (hc : r.state = .closing) :
    s.trailerDone k = ((({ s with
      et := s.et.mod r.number (Extent.commit s.clock.seconds s.clock.state)
      write := s.write.set k ⟨.empty, .idle⟩ }).endWrite r
        ⟨.ok, commitFields s.clock.seconds r.closingCheck.toNat s.clock.state.provisional
          (s.expiry (r.commit s.clock.seconds s.clock.state))⟩).clearStore k).judgeSince s := by
  unfold State.trailerDone
  rw [hr]
  dsimp only
  rw [if_pos hc]
  rfl

/-- Settles O36: CLOSE by its checks, the trailer's bytes, and both ends of its program. -/
theorem closeCommits : Obligations.CloseCommits := by
  refine ⟨fun s h c ext r st R h1 h2 he hm ho hi hst => ?_,
    fun r check seconds clock => ⟨trailer_length .., trailer_marker .., trailer_check ..⟩,
    fun s k first blocks o ha => ⟨fun r hr hc => ?_, ?_⟩⟩
  · obtain rfl := State.extent_number he
    have e : exec (.close h) s = .next ((s.takeMark c.master).conclude c
        (judgeClose (Ctx.of s c []) (.close r.number) (s.takeMark c.master))) :=
      congrArg _ (State.handOver_of_reaches R judgeClose)
    have hw : (s.takeMark c.master).writable c.master r.number = .ok r := by
      have := writable_ok (s := s.takeMark c.master) h1 (by simpa using h2)
        (by rw [State.extent_takeMark]; exact he) ho hi
      rwa [← hm] at this
    rw [e]
    dsimp only [judgeClose, Ctx.of]
    rw [hw]
    dsimp only
    by_cases h0 : r.count = 0
    · rw [if_pos h0, if_pos h0, State.conclude_refuse]
    rw [if_neg h0, if_neg h0]
    cases s.freeSlot c.master with
    | none => dsimp only; rw [State.conclude_refuse]
    | some j =>
      dsimp only
      rw [State.conclude_take, beginClose_eq _ r (by rw [State.store_takeMark]; exact hst)]
      simp only [ExtentTable.mod, closing_eq, State.takeMark_frame]
      rfl
  · show execTrailerOk s = _
    simp only [execTrailerOk, ha]
    rw [trailerDone_eq hr hc]
    simp only [ExtentTable.mod, commit_eq, provisional_eq]
    rw [show r.commit s.clock.seconds s.clock.state = { r with
      state := .committed, lastActivity := none, inFlight := none, running := none
      commitSecond := some s.clock.seconds, provisional := some s.clock.state.provisional
      check := some r.closingCheck, integrity := some .unverified } by simp [Extent.commit, hc], provisional_eq]
    rfl
  · show execTrailerMediaError s = _
    simp only [execTrailerMediaError, ha]

end Sys2Proof.Machine
end

section
/-! SUPPORT. The Disposition Engine: what its head does, what a scrub's end does, and the exits that are counted (R142 to
R149). -/

namespace Sys2Proof.Machine

/-! ### The changes of a queued record -/

theorem headTaken_eq : Extent.headTaken = fun x =>
    if x.state = .disposing ∧ x.sub = some .queued then { x with sub := some .scrubNext } else x := by
  funext x
  simp [Extent.headTaken]

theorem returned_eq : Extent.returned = fun x =>
    if x.state = .disposing ∧ x.sub ≠ some .scrubbing then
      { x with state := .committed, sub := none, attempts := none }
    else x := by
  funext x
  simp [Extent.returned, Extent.returnable]

theorem scrubFailed_eq : Extent.scrubFailed = fun x =>
    if x.state = .disposing ∧ x.sub = some .scrubbing then
      { x with sub := some .scrubNext, attempts := x.attempts.map (· + 1) }
    else x := by
  funext x
  simp [Extent.scrubFailed, Extent.isScrubbing]

theorem release_eq (second : Nat) (seq : Option Nat) : Extent.release second seq = fun x =>
    if x.state = .disposing ∧ x.sub = some .scrubbing then
      { x with
        state := .released, sub := none, attempts := none, disposalSecond := some second, dispSeq := seq }
    else x := by
  funext x
  simp [Extent.release, Extent.isScrubbing]

theorem failDisposal_eq : Extent.failDisposal = fun x =>
    if x.state = .disposing ∧ x.sub = some .scrubbing then
      { x with state := .disposalFailed, sub := none, attempts := some 3 }
    else x := by
  funext x
  simp [Extent.failDisposal, Extent.isScrubbing]

/-! ### The head -/

/-- The issue-time check of an extent that has a record (R143). -/
theorem State.mayScrub_iff {s : State} {n : Nat} {r : Extent} (h : s.extent n = some r) :
    s.mayScrub n = true ↔ s.expired r = true ∧ s.isHeld r = false := by
  simp [State.mayScrub, h]

/-- A head that R6 lets return leaves the queue, counted, and the engine is IDLE (R143). -/
theorem State.returnHead_eq {s : State} {e : QueueEntry} {rest : List QueueEntry} {r : Extent}
    (hq : s.engine.queue = e :: rest) (hr : s.extent e.ext = some r) (hd : r.state = .disposing)
    (hs : r.sub ≠ some .scrubbing) :
    s.returnHead = ((s.modExtent e.ext Extent.returned).leaveQueue e .returned).setStage .idle := by
  have ht : r.returnable = true := by simp [Extent.returnable, hd, hs]
  simp [State.returnHead, State.returnEntry, hq, hr, ht]

/-- The judgement of a head: its SCRUB is placed, or it returns to COMMITTED (R143). -/
theorem State.placeScrub_eq {s : State} {e : QueueEntry} {rest : List QueueEntry} {r : Extent}
    (hq : s.engine.queue = e :: rest) (hr : s.extent e.ext = some r) (hd : r.state = .disposing)
    (hs : r.sub ≠ some .scrubbing) :
    s.placeScrub e.ext =
      if s.expired r = true ∧ s.isHeld r = false then
        (s.setStage .placed).place ⟨.scrub e.ext, none, r.start, r.count + 1⟩
      else ((s.modExtent e.ext Extent.returned).leaveQueue e .returned).setStage .idle := by
  unfold State.placeScrub scrubOp
  simp only [hr, State.mayScrub_iff hr, State.extent_number hr, State.returnHead_eq hq hr hd hs]

/-- The exits of a DISPOSE are over when as many are counted as it queued (R148). -/
theorem DisposeWork.over_iff (w : DisposeWork) : w.over = true ↔ w.released + w.returned + w.failed = w.queued := by
  simp [DisposeWork.over]

/-- Settles O51: both rows judge the head by `State.placeScrub_eq`. -/
theorem headsAreTaken : Obligations.HeadsAreTaken := by
  refine ⟨fun s e rest r hq hr hd => ⟨fun ht hi hs => ?_, fun hg hc hs => ?_, fun hg hc => ?_⟩,
    fun s e x ref h w hslot hw => ?_⟩
  · have hu := State.extent_modExtent_same s touch_headTaken.number hr
    rw [show r.headTaken = { r with sub := some .scrubNext } by simp [Extent.headTaken, hd, hs]] at hu
    have hj := State.placeScrub_eq (s := s.modExtent e.ext Extent.headTaken) hq hu hd (by simp)
    have he : exec .headTake s = .next
        (if 0 < s.readerCount e.ext then (s.modExtent e.ext Extent.headTaken).setStage .readers
        else (s.modExtent e.ext Extent.headTaken).placeScrub e.ext) := by
      show execHeadTake s = _
      simp only [execHeadTake, ht, hi, State.takeHead, hq]
      rfl
    rw [he, hj, headTaken_eq, returned_eq]
    rfl
  · have hj := State.placeScrub_eq hq hr hd hs
    have he : exec .readersDrained s = .next (s.placeScrub e.ext) := by
      show execReadersDrained s = _
      simp only [execReadersDrained, hg, hq, hc, if_true]
    rw [he, hj, returned_eq]
    rfl
  · show execReadersDrained s = _
    simp only [execReadersDrained, hg, hq, if_neg hc.ne']
  · simp only [State.countExit, hslot, hw, DisposeWork.over_iff]
    cases x <;> rfl

/-! ### The end of a scrub -/

theorem exhausted_iff (j : Journal) : j.exhausted = false ↔ j.used < j.pages - 8 := by
  rw [Journal.exhausted, decide_eq_false_iff_not, Nat.not_le]
  rfl

/-- Settles O52: each end of a SCRUB, both places, and the entry that leaves the queue. -/
theorem scrubsEnd : Obligations.ScrubsEnd := by
  refine ⟨fun s n first blocks o ha => ⟨?_, fun r attempts e rest hr hd hs hat hq hen => ?_⟩,
    fun s e rest r hq hr hd hs => ⟨?_, ?_⟩, fun s => ⟨fun hg => ?_, fun hg => ?_⟩, fun v e x => rfl⟩
  · show execScrubCompleteOk s = _
    simp only [execScrubCompleteOk, ha]
  · subst hen
    have hu := State.extent_modExtent_same s touch_scrubFailed.number hr
    rw [show r.scrubFailed = { r with sub := some .scrubNext, attempts := r.attempts.map (· + 1) } by
      simp [Extent.scrubFailed, Extent.isScrubbing, hd, hs]] at hu
    have hq' : (s.modExtent e.ext Extent.scrubFailed).engine.queue = e :: rest := hq
    have hj := State.placeScrub_eq hq' hu hd (by simp)
    have hb := State.returnHead_eq hq' hu hd (by simp)
    show execScrubMediaError s = _
    simp only [execScrubMediaError, ha, State.scrubFault, hr, hat, Option.getD_some]
    by_cases h2 : 2 ≤ attempts
    · rw [if_neg (by omega), if_pos h2]
    rw [if_pos (by omega), if_neg h2]
    by_cases hx : s.journal.used < s.journal.pages - 8
    · rw [if_neg (by simpa using (exhausted_iff s.journal).2 hx), hj, scrubFailed_eq, returned_eq]
      by_cases hm : s.expired r = true ∧ s.isHeld r = false
      · rw [if_pos (by exact hm), if_pos ⟨hx, hm⟩]
      · rw [if_neg (by exact hm), if_neg fun h => hm h.2]
    · rw [if_pos (by by_contra h; exact hx ((exhausted_iff s.journal).1 (by simpa using h))),
        if_neg fun h => hx h.1, hb, scrubFailed_eq, returned_eq]
  · show s.settleDisposed = _
    simp only [State.settleDisposed, hq, hr, Extent.isScrubbing, hd, hs, release_eq, Journal.nextPlace_eq]
    rfl
  · show s.settleDisposalFailed = _
    simp only [State.settleDisposalFailed, hq, hr, Extent.isScrubbing, hd, hs, failDisposal_eq]
    rfl
  · show execDisposed s = _
    rw [execDisposed, State.grantPlace, if_pos hg]
  · show execDisposalFailed s = _
    rw [execDisposalFailed, State.grantPlace, if_pos hg]

end Sys2Proof.Machine
end

section
/-! SUPPORT. DISPOSE: the classification of a range is a fold over the numbers up to the one that fills the queue, and what
it enqueues does not change what it finds of the others (R138, R139). -/

namespace Sys2Proof.Machine

/-! ### The outcome of one number -/

theorem isNode_iff (m : Master) : isNode m = true ↔ m ≠ .cport := by
  cases m <;> simp [isNode]

/-- An extent is not expired when its day is permanent, or has not passed (R116). -/
theorem State.expired_eq_false {s : State} {r : Extent} :
    s.expired r = false ↔ s.expiry r = 65535 ∨ s.clock.seconds / 86400 ≤ s.expiry r := by
  simp only [State.expired, Bool.and_eq_false_iff, bne_eq_false_iff_eq, decide_eq_false_iff_not, Nat.not_lt]
  rfl

/-- The rows of R138 in their order. -/
theorem State.classify_eq (s : State) (m : Master) (n : Nat) :
    s.classify m n = match s.extent n with
      | none => .notPresent
      | some r =>
        if r.state = .opened ∨ r.state = .closing ∨ r.state = .voided then .notCommitted
        else if r.state = .disposing ∨ r.state = .released then .already
        else if r.state = .disposalFailed ∧ m ≠ .cport then .failedPrior
        else if s.expiry r = 65535 ∨ s.clock.seconds / 86400 ≤ s.expiry r then .notExpired
        else if s.isHeld r = true then .held
        else if m ≠ .cport ∧ s.custodianOnly r = true then .complianceOnly
        else .queued := by
  unfold State.classify
  cases s.extent n with
  | none => rfl
  | some r => cases hr : r.state <;> simp [hr, isNode_iff, ← State.expired_eq_false]

/-! ### What has been enqueued -/

/-- The state with the numbers `q` enqueued in their order (R141). -/
def State.enqueued (s : State) (m : Master) (slot : Option SlotRef) (q : List Nat) : State :=
  { s with
    et := { s.et with records := s.et.records.map (fun (x : Extent) =>
      if x.number ∈ q ∧ (x.state = .committed ∨ x.state = .disposalFailed) then
        { x with state := .disposing, sub := some .queued, attempts := some 0 }
      else x) }
    engine := { s.engine with queue := s.engine.queue ++ q.map (fun n => ⟨n, .master m, slot⟩) } }

theorem State.enqueued_nil (s : State) (m : Master) (slot : Option SlotRef) : s.enqueued m slot [] = s := by
  simp [State.enqueued]

theorem State.enqueued_queue_length (s : State) (m : Master) (slot : Option SlotRef) (q : List Nat) :
    (s.enqueued m slot q).engine.queue.length = s.engine.queue.length + q.length := by
  simp [State.enqueued]

theorem State.enqueued_enqueue (s : State) (m : Master) (slot : Option SlotRef) (q : List Nat) (n : Nat) :
    (s.enqueued m slot q).enqueue ⟨n, .master m, slot⟩ = s.enqueued m slot (q ++ [n]) := by
  simp only [State.enqueue, State.enqueued, State.modExtent, State.withEt, State.withEngine, List.map_map,
    List.map_append, List.append_assoc, List.map_cons, List.map_nil]
  congr 3
  funext x
  dsimp only [Function.comp_apply]
  by_cases hs : x.state = .committed ∨ x.state = .disposalFailed
  swap
  · simp [hs, Extent.queue]
  by_cases hq : x.number ∈ q
  · simp [hs, hq, Extent.queue]
  · by_cases hn : n = x.number
    · subst hn
      simp [hs, hq, Extent.queue]
    · simp [hs, hq, Ne.symm hn]

/-- What is enqueued leaves the records of other numbers as they are (R4). -/
theorem State.extent_enqueued (s : State) (m : Master) (slot : Option SlotRef) {q : List Nat} {n : Nat} (h : n ∉ q) :
    (s.enqueued m slot q).extent n = s.extent n := by
  refine (find?_map_number _ _ (fun r => ?_) n).trans ?_
  · split <;> rfl
  · cases hr : s.extent n with
    | none => exact congrArg _ hr
    | some r =>
      refine (congrArg _ hr).trans ?_
      simp [State.extent_number hr, h]

theorem State.classify_enqueued (s : State) (m : Master) (slot : Option SlotRef) {q : List Nat} {n : Nat}
    (h : n ∉ q) : (s.enqueued m slot q).classify m n = s.classify m n := by
  rw [State.classify_eq, State.classify_eq, State.extent_enqueued s m slot h]
  rfl

/-! ### The tally -/

/-- The tally of the numbers examined, each with its outcome (R138). -/
def tallyOf (f : Nat → Outcome) (l : List Nat) (t : Tally) : Tally := l.foldl (fun t n => t.add (f n) n) t

/-- One count for each outcome, in the order of R138. -/
theorem tallyOf_counts (f : Nat → Outcome) (l : List Nat) :
    (tallyOf f l .start).counts = [Outcome.notPresent, .notCommitted, .already, .failedPrior, .notExpired, .held,
      .complianceOnly, .queued].map (fun o => (l.filter (fun n => f n == o)).length) := by
  induction l using List.reverseRecOn with
  | nil => rfl
  | append_singleton l n ih =>
    have ha : tallyOf f (l ++ [n]) .start = (tallyOf f l .start).add (f n) n := by simp [tallyOf]
    rw [ha, Tally.add, ih]
    cases hf : f n <;> simp [Outcome.index, List.filter_append, hf, List.modify]

theorem tallyOf_queued (f : Nat → Outcome) (l : List Nat) :
    (tallyOf f l .start).queued = (l.filter (fun n => f n == .queued)).length := by
  simp [Tally.queued, tallyOf_counts]

theorem tallyOf_examined (f : Nat → Outcome) (l : List Nat) : (tallyOf f l .start).examined = l.getLast? := by
  induction l using List.reverseRecOn with
  | nil => rfl
  | append_singleton l n _ => simp [tallyOf, Tally.add]

/-- The fields of a DISPOSE receipt, before any exit (R140). -/
theorem work_fields (t : Tally) (first : Nat) : (t.work first).fields =
    le 4 first ++ le 4 (t.examined.getD 0) ++ (t.counts.map (le 2)).flatten ++ [0, 0, 0, 0, 0, 0] := by
  simp only [DisposeWork.fields, Tally.work, List.append_assoc]
  rfl

/-! ### The classification of a range -/

/-- Nothing is examined at a full queue (R139). -/
theorem classifyAll_full (m : Master) (slot : Option SlotRef) (l : List Nat) {s : State} (t : Tally)
    (h : 1024 ≤ s.engine.queue.length) : State.classifyAll m slot l s t = (s, t) := by
  cases l with
  | nil => rfl
  | cons n ns => exact if_pos h

/-- The numbers up to the `k`-th are examined, each as the state before the whole range has it; the `k`-th is the last, or
fills the queue (R138, R139). -/
theorem classifyAll_eq (m : Master) (slot : Option SlotRef) (s : State) (l q : List Nat) (t : Tally) (k : Nat)
    (hd : (q ++ l).Nodup) (hk : k ≤ l.length)
    (hroom : ∀ j, k = j + 1 →
      s.engine.queue.length + q.length + ((l.take j).filter (fun n => s.classify m n == .queued)).length < 1024)
    (hend : k = l.length ∨
      s.engine.queue.length + q.length + ((l.take k).filter (fun n => s.classify m n == .queued)).length = 1024) :
    State.classifyAll m slot l (s.enqueued m slot q) t =
      (s.enqueued m slot (q ++ (l.take k).filter (fun n => s.classify m n == .queued)),
        tallyOf (s.classify m) (l.take k) t) := by
  induction l generalizing q t k with
  | nil => simp [State.classifyAll, tallyOf]
  | cons n ns ih =>
    have hl := s.enqueued_queue_length m slot q
    cases k with
    | zero =>
      rw [classifyAll_full _ _ _ _ (by rw [hl]; simpa using hend.elim nofun fun h => h.ge)]
      simp [tallyOf]
    | succ k =>
      have hq := hroom k rfl
      have hn : n ∉ q := fun h => (List.nodup_append.1 hd).2.2 n h n (by simp) rfl
      have hroom' : ∀ j, k = j + 1 → s.engine.queue.length + q.length +
          ((n :: ns.take j).filter (fun n => s.classify m n == .queued)).length < 1024 := by
        rintro j rfl
        exact hq
      rw [State.classifyAll, if_neg (by rw [hl]; show ¬ 1024 ≤ _; omega), s.classify_enqueued m slot hn]
      by_cases ho : s.classify m n = .queued
      · simp only [ho, State.enqueued_enqueue]
        rw [ih (q ++ [n]) _ k (by simpa using hd) (by simpa using hk)
          (fun j hj => by have := hroom' j hj; simp [ho] at this ⊢; omega)
          (hend.imp (by simp) (by simp [ho]; omega))]
        simp [ho, tallyOf]
      · have hd' : (q ++ ns).Nodup := hd.sublist (List.Sublist.append_left (List.sublist_cons_self n ns) q)
        split
        · next h => exact absurd h ho
        · rw [ih q _ k hd' (by simpa using hk) (fun j hj => by have := hroom' j hj; simpa [ho] using this)
            (hend.imp (by simp) (by simp [ho]))]
          simp [ho, tallyOf]

/-! ### The statement -/

theorem State.classify_takeMark (s : State) (m k : Master) : (s.takeMark m).classify k = s.classify k := by
  funext n
  simp only [State.classify_eq, State.extent_takeMark, State.expiry, State.classEntry_takeMark, State.isHeld,
    State.custodianOnly, State.takeMark_frame]
  rfl

theorem rangeNumbers_nodup (first last : Nat) : (rangeNumbers first last).Nodup :=
  List.nodup_range.map fun _ _ h => Nat.add_left_cancel h

/-- The last number examined, when the first `k` of a range are. -/
theorem rangeNumbers_getLast {first last k : Nat} (h1 : 1 ≤ k) (hk : k ≤ (rangeNumbers first last).length) :
    ((rangeNumbers first last).take k).getLast? = some (first + (k - 1)) := by
  have hl : k ≤ last + 1 - first := by simpa [rangeNumbers] using hk
  rw [List.getLast?_take, if_neg (by omega)]
  simp only [rangeNumbers, List.getElem?_map]
  rw [List.getElem?_range (by omega)]
  rfl

/-- Settles O50: the owner's checks, and `classifyAll_eq` for the range. -/
theorem disposeClassifies : Obligations.DisposeClassifies := by
  intro s h c first sent R no last node outcome numbers queuedOf countsOf fields
  have ho : outcome = s.classify c.master := by
    funext n
    rw [State.classify_eq]
    rfl
  have hlast (hf : first ≤ sent) : adjustedLast first sent = last := by
    simp only [adjustedLast, hf, true_and]
    rfl
  clear_value outcome
  subst ho
  have e : exec (.dispose h) s = .next ((s.takeMark c.master).conclude c
      (judgeDispose (Ctx.of s c []) (.dispose first sent) (s.takeMark c.master))) :=
    congrArg _ (State.handOver_of_reaches R judgeDispose)
  rw [e]
  dsimp only [judgeDispose, Ctx.of]
  rw [show (s.takeMark c.master).journal = s.journal by simp]
  refine ⟨fun hf => ?_, fun hf hx => ?_, fun hf hx hq => ?_, fun k hf hx hq h1 hk hroom hend => ?_⟩
  · rw [if_pos hf, State.conclude_refuse]
  · have hx' : s.journal.exhausted = true := by
      rw [← Bool.not_eq_false, exhausted_iff]
      omega
    rw [if_neg (by omega), if_pos hx', State.conclude_refuse]
  · have hx' := (exhausted_iff s.journal).2 hx
    rw [if_neg (by omega), if_neg (by simp [hx']), classifyAll_full _ _ _ _ (by simpa using hq)]
    dsimp only
    rw [if_pos (by rfl), State.conclude_done, work_fields]
    rfl
  · have hx' := (exhausted_iff s.journal).2 hx
    have hc := fun slot => classifyAll_eq c.master slot (s.takeMark c.master) numbers [] .start k
      (rangeNumbers_nodup first last) hk
    simp only [State.enqueued_nil, State.classify_takeMark, State.takeMark_frame, List.length_nil, Nat.add_zero,
      List.nil_append] at hc
    have hc := fun slot => hc slot (by rintro j rfl; exact hroom) hend
    have hw : (tallyOf (s.classify c.master) (numbers.take k) .start).work first =
        ⟨first, first + (k - 1), countsOf (numbers.take k), (queuedOf (numbers.take k)).length, 0, 0, 0⟩ := by
      rw [Tally.work, tallyOf_queued, tallyOf_counts, tallyOf_examined,
        show (numbers.take k).getLast? = _ from rangeNumbers_getLast h1 hk]
      rfl
    have hf' : ((tallyOf (s.classify c.master) (numbers.take k) .start).work first).fields =
        fields (first + (k - 1)) (countsOf (numbers.take k)) := by
      rw [work_fields, tallyOf_counts, tallyOf_examined,
        show (numbers.take k).getLast? = _ from rangeNumbers_getLast h1 hk]
      rfl
    rw [if_neg (by omega), if_neg (by simp [hx']), hlast hf, show rangeNumbers first last = numbers from rfl, hc]
    dsimp only
    rw [tallyOf_queued, hf', hw]
    by_cases hn : queuedOf (numbers.take k) = []
    · rw [if_pos (by exact congrArg List.length hn), if_pos hn, State.conclude_done]
    · rw [if_neg (by exact mt List.length_eq_zero_iff.1 hn), if_neg hn]
      cases s.freeSlot c.master with
      | none => exact congrArg _ (State.conclude_refuse s c _ _)
      | some i =>
        dsimp only
        rw [State.conclude_take]
        simp only [State.enqueued, State.takeMark_frame]
        rfl

end Sys2Proof.Machine
end

section
/-! SUPPORT. Start-up: what the journal's recovery leaves as it is in a part just reset, and what the blocks recover from
table memory (R10, R35, R150, R163, R184). -/

namespace Sys2Proof.Machine

/-! ### The journal's recovery in a part just reset -/

/-- What the journal's recovery may do when the disposal queue is empty: the extents stay, the engine is IDLE with nothing
queued, the stores are recovered to the same, and the page list only grows. -/
structure Recovering (s t : State) : Prop where
  et : t.et = s.et
  engine : t.engine = ⟨[], .idle⟩
  stores : t.storeMap.recovered = s.storeMap.recovered
  journal : ∃ l w, t.journal = { s.journal with pageList := s.journal.pageList ++ l, waits := w }

theorem Recovering.refl {s : State} (h : s.engine = ⟨[], .idle⟩) : Recovering s s :=
  ⟨rfl, h, rfl, [], s.journal.waits, by simp⟩

theorem Recovering.trans {s t u : State} (a : Recovering s t) (b : Recovering t u) : Recovering s u := by
  obtain ⟨l, w, hj⟩ := a.journal
  obtain ⟨l', w', hj'⟩ := b.journal
  exact ⟨b.et.trans a.et, b.engine, b.stores.trans a.stores, l ++ l', w', by simp [hj', hj]⟩

theorem recovering_media {s : State} (h : s.engine = ⟨[], .idle⟩) (m : Media) : Recovering s (s.withMedia m) :=
  ⟨rfl, h, rfl, [], s.journal.waits, by simp⟩

theorem recovering_raise {s : State} (h : s.engine = ⟨[], .idle⟩) (c : EventClass) (m : Option Master) :
    Recovering s (s.raise c m) :=
  ⟨by simp, by simpa using h, by simp, [], s.journal.waits, by simp⟩

/-- A split that fails returns its stores to ACTIVE, as recovery does (R33, R35). -/
theorem recovered_failSplit (s : State) (c : Code) : (s.failSplit c).storeMap.recovered = s.storeMap.recovered := by
  unfold State.failSplit
  split
  · rfl
  · simp only [State.endSlot_frame, State.dropWait_frame, State.withStoreMap_storeMap, StoreMap.recovered, List.map_map]
    congr 1
    refine List.map_congr_left fun st _ => ?_
    cases hs : st.state <;> simp [Store.isSplitting, hs]

theorem failSplit_journal (s : State) (c : Code) :
    ∃ w, (s.failSplit c).journal = { s.journal with waits := w } := by
  unfold State.failSplit
  split
  · exact ⟨s.journal.waits, rfl⟩
  · exact ⟨s.journal.waits.erase .splitDone, by simp [State.dropWait]⟩

/-- With nothing queued, general exhaustion only fails a split. -/
theorem recovering_exhaust {s : State} (h : s.engine = ⟨[], .idle⟩) : Recovering s s.exhaust := by
  obtain ⟨w, hw⟩ := failSplit_journal s .journalFull
  have hq : s.exhaust = ((s.failSplit .journalFull).withMedia { (s.failSplit .journalFull).media with
      waiting := (s.failSplit .journalFull).media.waiting.filter (fun op => !op.isScrub) }).setStage .idle := by
    simp [State.exhaust, State.returnQueue, h]
  rw [hq]
  exact ⟨by simp, by simp [State.setStage, h], by simpa using recovered_failSplit s .journalFull, [], w, by simp [hw]⟩

theorem recovering_issuePage {s : State} (h : s.engine = ⟨[], .idle⟩) (op : MediaOp) :
    Recovering s (s.issuePage op) := by
  unfold State.issuePage
  dsimp only
  generalize hu : (s.fly op).withJournal _ = u
  have h1 : Recovering s u := by
    subst hu
    exact ⟨rfl, h, rfl, _, _, rfl⟩
  have h2 : Recovering s (if u.journal.used = s.journal.lowMark then u.raise .journalLow none else u) := by
    split
    · exact h1.trans (recovering_raise h1.engine _ _)
    · exact h1
  split
  · exact h2.trans (recovering_exhaust h2.engine)
  · exact h2

/-- A page write that is placed waits, or is granted before all others (R78, R80). -/
theorem recovering_judgePage {s : State} (h : s.engine = ⟨[], .idle⟩) : Recovering s s.judgePage := by
  rcases s.judgePage_cases with e | ⟨-, e⟩ <;> rw [e]
  · exact .refl h
  unfold State.place
  dsimp only
  split
  · next hf =>
    obtain ⟨-, hw⟩ := Bool.and_eq_true_iff.1 hf
    rw [List.isEmpty_iff.1 hw]
    exact (recovering_media h _).trans (recovering_issuePage (by exact h) _)
  · exact recovering_media h _

theorem recovering_recoverJournal {s : State} (h : s.engine = ⟨[], .idle⟩) :
    Recovering (s.withJournal s.journal.cutOff) s.recoverJournal := by
  have hw : (s.withJournal s.journal.cutOff).engine = ⟨[], .idle⟩ := h
  rcases s.recoverJournal_cases with e | ⟨c, m, e⟩ | e <;> rw [e]
  · exact .refl hw
  · exact recovering_raise hw c m
  · exact recovering_exhaust hw

theorem recovering_journalRecovered {s : State} (h : s.engine = ⟨[], .idle⟩) :
    Recovering (s.withJournal s.journal.cutOff) s.journalRecovered :=
  (recovering_recoverJournal h).trans (recovering_judgePage (recovering_recoverJournal h).engine)

theorem aside_journalRecovered (s : State) : Aside (s.withJournal s.journal.cutOff) s.journalRecovered := by
  refine Aside.trans ?_ (Aside.judgePage _)
  rcases s.recoverJournal_cases with e | ⟨c, m, e⟩ | e <;> rw [e]
  · exact Aside.refl _
  · exact Aside.raise _ _ _
  · exact Aside.exhaust _

/-- No entry of a recovered page list is ISSUED, so the pages used are those of the counter (R158, R163). -/
theorem cutOff_not_issued (j : Journal) : j.cutOff.pageList.any (·.isIssued) = false := by
  simp only [Journal.cutOff, List.any_map, List.any_eq_false]
  intro e _
  cases e <;> simp [PageEntry.recovered, PageEntry.isIssued]

theorem cutOff_used (j : Journal) : j.cutOff.used = j.used := by
  rw [Journal.used, cutOff_not_issued]
  rfl

/-- Before R157 is judged, the journal's recovery cuts off the ISSUED page and gives up at most a split's request. -/
theorem recoverJournal_journal (s : State) : ∃ w, s.recoverJournal.journal = { s.journal.cutOff with waits := w } := by
  rcases s.recoverJournal_cases with e | ⟨c, m, e⟩ | e <;> rw [e]
  · exact ⟨_, rfl⟩
  · exact ⟨s.journal.cutOff.waits, by simp⟩
  · obtain ⟨w, hw⟩ := failSplit_journal (s.withJournal s.journal.cutOff) .journalFull
    exact ⟨w, by simpa [State.exhaust] using hw⟩

theorem recoverJournal_used (s : State) : s.recoverJournal.journal.used = s.journal.used := by
  obtain ⟨w, hw⟩ := recoverJournal_journal s
  rw [hw]
  exact cutOff_used s.journal

/-- No page write is due while nothing is buffered (R157). -/
theorem journalRecovered_of_empty {s : State} (h : s.journal.buffer = []) : s.journalRecovered = s.recoverJournal := by
  obtain ⟨w, hw⟩ := recoverJournal_journal s
  have hb : s.recoverJournal.journal.buffer = [] := by
    rw [hw]
    exact h
  have hd : s.recoverJournal.pageDue = false := by
    simp [State.pageDue, State.pageAged, Journal.buffered, hb, Config.pageRecords]
  simp [State.journalRecovered, State.judgePage, hd]

/-- What the journal's recovery leaves as it is. -/
theorem journalRecovered_frame (s : State) :
    s.journalRecovered.phase = s.phase ∧ s.journalRecovered.marker = s.marker ∧
      s.journalRecovered.settings = s.settings ∧ s.journalRecovered.readers = s.readers ∧
      s.journalRecovered.write = s.write ∧ s.journalRecovered.clock = s.clock ∧
      s.journalRecovered.classes = s.classes ∧ s.journalRecovered.holds = s.holds := by
  simp only [State.journalRecovered, State.judgePage_frame]
  rcases s.recoverJournal_cases with e | ⟨c, m, e⟩ | e <;> simp [e]

/-! ### What is recovered -/

theorem storeMap_recovered_eq (m : StoreMap) : m.recovered = { m with
    stores := m.stores.map (fun st =>
      { st with reservation := 0, state := if st.state = .splitting then .active else st.state })
    split := none } := by
  simp [StoreMap.recovered, Store.isSplitting]

theorem writing_eq : Extent.writing = fun r => decide (r.state = .opened ∨ r.state = .closing) := by
  funext r
  rw [← Bool.coe_iff_coe, writing_iff, decide_eq_true_iff]

/-- Recovery makes no extent writing, nor ends its writing. -/
theorem writing_recovered (b : Bool) (r : Extent) : (Extent.recovered b r).writing = r.writing := by
  unfold Extent.recovered
  split
  · next h =>
    cases b <;> simp [Extent.writing, h]
  · rfl

theorem number_recovered (b : Bool) (r : Extent) : (Extent.recovered b r).number = r.number := by
  unfold Extent.recovered
  repeat' split
  all_goals rfl

/-- The interrupted extents are those being written when power or reset came (R10). -/
theorem interrupted_extentsRecovered (s : State) : s.extentsRecovered.interrupted = s.interrupted := by
  simp only [State.interrupted, State.extentsRecovered, State.withEt_et, List.filter_map, List.map_map,
    Function.comp_def, writing_recovered, number_recovered]

/-- Every slot of a part just reset is FREE, and the journal's recovery leaves it so (R168). -/
theorem slot_loaded {s : State} {env : StartEnv} {ref : SlotRef} {v : Slot} (h : (s.loaded env).slot ref = some v) :
    v = .free := by
  obtain ⟨m, i⟩ := ref
  have hm := List.mem_of_getElem? h
  rcases m with (_ | _) | _ <;> exact List.eq_of_mem_replicate hm

theorem slot_of_aside {s t : State} (a : Aside s t) (hs : ∀ ref v, s.slot ref = some v → v = .free) {ref : SlotRef}
    {v : Slot} (h : t.slot ref = some v) : v = .free := by
  have hi : ref.index < (s.slots ref.master).length := by
    rw [← a.slots.slotCount]
    exact (List.getElem?_eq_some_iff.1 h).1
  obtain ⟨w, hw⟩ : ∃ w, s.slot ref = some w := ⟨_, List.getElem?_eq_getElem hi⟩
  obtain rfl := hs ref w hw
  have := a.slots.settled ref .free hw rfl
  rw [h] at this
  exact Option.some.inj this

theorem startUp_exec {i : Instr} {s : State} {env : StartEnv} {cause : Cause}
    (h : (i = .powerOn env ∧ s.phase = .off ∧ cause = .powerOn) ∨
      (i = .resetNRelease env ∧ s.phase = .held ∧ cause = .resetN)) :
    exec i s = .next (s.startUp cause env) := by
  obtain ⟨rfl, hp, rfl⟩ | ⟨rfl, hp, rfl⟩ := h
  · show execPowerOn env s = _
    simp only [execPowerOn, hp]
  · show execResetNRelease env s = _
    simp only [execResetNRelease, hp]

/-- Settles O4: the journal's recovery is `Recovering`, and the rest is `recover_eq`. -/
theorem startUpRecoversTables : Obligations.StartUpRecoversTables := by
  intro i s env cause hm hi
  have e := startUp_exec hi
  rw [startUp_marked cause env hm, recover_eq] at e
  have hr := recovering_journalRecovered (s := s.loaded env) rfl
  have ha := aside_journalRecovered (s.loaded env)
  have hslot := fun ref v => slot_of_aside ha (fun ref v h => slot_loaded (s := s) (env := env) h) (ref := ref) (v := v)
  have hw := interrupted_extentsRecovered (s.loaded env).journalRecovered
  have hu := recoverJournal_used (s.loaded env)
  have hroutes := ha.rest.routes
  have hframe := journalRecovered_frame (s.loaded env)
  generalize (s.loaded env).journalRecovered = u at *
  obtain ⟨het, heng, hst, l, w, hj⟩ := hr
  obtain ⟨h1, h2, h3, h4, h5, h6, h7, h8⟩ := hframe
  have hrec : u.extentsRecovered.et.records = s.et.records.map (Extent.recovered u.journal.exhausted) :=
    congrArg (fun et : ExtentTable => et.records.map (Extent.recovered u.journal.exhausted)) het
  refine ⟨_, e, h1, h2.trans hm, ?_, ?_, h7, h8, congrArg (·.next) het, congrArg (·.keys) het, ?_, ?_, ?_, h6,
    ?_, ?_, ?_, ?_, ?_, ?_, ?_, ?_, h4, h5, hslot, ?_, ?_⟩
  · simp [State.taking, h1]
    rfl
  · show Startup.mk _ _ _ _ _ _ = _
    rw [hu]
    rw [show (s.loaded env).journal.buffered = s.journal.buffer.length from List.length_map _]
    rfl
  · exact hrec
  · show Engine.mk u.rebuiltQueue .idle = _
    simp only [State.rebuiltQueue, State.disposing, het, List.map_map]
    rfl
  · exact hst.trans (storeMap_recovered_eq s.storeMap)
  · exact congrArg (·.buffer) hj
  · exact congrArg (·.nextSeq) hj
  · exact congrArg (·.lastCheck) hj
  · exact congrArg (·.overflow) hj
  · exact congrArg (·.mark) hj
  · exact congrArg (·.counter) hj
  · show u.journal.pageList.take _ = _
    rw [hj]
    exact List.take_left' (List.length_map _)
  · show u.extentsRecovered.interrupted.map PlaceRequest.recovery ++ [.start] = _
    rw [hw]
    simp only [State.interrupted, het, List.map_map, writing_eq]
    rfl
  · exact h3.trans (by rw [← hm]; rfl)
  · exact hroutes.trans (by rw [← hm]; rfl)

/-! ### Initialization -/

/-- The data region in force (R184, 13.7). -/
theorem dataRegion_eq (l : Loaded) (array base pages : Nat) :
    let first := l.dataBase.getD (base + pages)
    let last := if l.dataSize = 0 then max first array else first + l.dataSize
    let kept := last ≤ array ∧ (last ≤ base ∨ base + pages ≤ first ∨ last ≤ first)
    l.dataRegion array base pages =
      (if kept then first else base + pages, if kept then last - first else array - (base + pages),
        if kept then 0 else l.dataEntries) := by
  intro first last kept
  have hk : (last ≤ array && (last ≤ base || base + pages ≤ first || last ≤ first)) = true ↔ kept := by
    simp [kept, or_assoc]
  show (if (last ≤ array && (last ≤ base || base + pages ≤ first || last ≤ first)) = true then _ else _) = _
  by_cases h : kept
  · rw [if_pos (hk.2 h), if_pos h, if_pos h, if_pos h]
  · rw [if_neg (mt hk.1 h), if_neg h, if_neg h, if_neg h]

/-- What recovery makes of a part just initialized: only the START record waits (R163, R184). -/
theorem recover_blank {s : State} (cause : Cause) (initialized : Bool) (he : s.engine = ⟨[], .idle⟩)
    (hr : s.et.records = []) (hs : s.storeMap.recovered = s.storeMap) {base pages : Nat}
    (hj : s.journal = ⟨base, pages, [], 1, 0, 0, [], 0, none, []⟩) :
    (s.recover cause initialized).phase = s.phase ∧ (s.recover cause initialized).marker = s.marker ∧
      (s.recover cause initialized).storeMap = s.storeMap ∧ (s.recover cause initialized).classes = s.classes ∧
      (s.recover cause initialized).holds = s.holds ∧ (s.recover cause initialized).et = s.et ∧
      (s.recover cause initialized).clock = s.clock ∧
      (s.recover cause initialized).journal = ⟨base, pages, [], 1, 0, 0, [], 0, none, [.start]⟩ ∧
      (s.recover cause initialized).settings = s.settings ∧
      (s.recover cause initialized).router.routes = s.router.routes ∧
      (s.recover cause initialized).startup = ⟨cause, initialized, 0, 0, 0, 0⟩ := by
  have hu := recoverJournal_used s
  have hrec := recovering_journalRecovered he
  have hroutes := (aside_journalRecovered s).rest.routes
  obtain ⟨w, hw⟩ := recoverJournal_journal s
  rw [← journalRecovered_of_empty (by rw [hj])] at hw
  obtain ⟨h1, h2, h3, -, -, h6, h7, h8⟩ := journalRecovered_frame s
  have hq : s.journalRecovered.rebuiltQueue = [] := by
    have : s.journalRecovered.et.records = [] := (congrArg (·.records) hrec.et).trans hr
    simp [State.rebuiltQueue, State.disposing, this]
  have het : s.journalRecovered.extentsRecovered.et = s.et := by
    have : s.et.records.map (Extent.recovered s.journalRecovered.journal.exhausted) = s.et.records := by simp [hr]
    simp only [State.extentsRecovered, State.withEt_et, hrec.et, State.withJournal_et, this]
  rw [recover_eq]
  refine ⟨h1, h2, hrec.stores.trans hs, h7, h8, het, h6, ?_, h3, hroutes, ?_⟩
  · have hi : s.journalRecovered.interrupted = [] := by
      have : s.journalRecovered.et.records = [] := (congrArg (·.records) hrec.et).trans hr
      simp [State.interrupted, this]
    show ({ s.journalRecovered.journal with waits := _ } : Journal) = _
    rw [State.recoveryWaits, interrupted_extentsRecovered, hi, hw, hj]
    rfl
  · show Startup.mk _ _ _ _ _ _ = _
    rw [hu, hq, hj]
    rfl

theorem recovered_initial (base size low pages : Nat) :
    StoreMap.recovered ⟨base, size, [Store.initial low pages], none⟩ = ⟨base, size, [Store.initial low pages], none⟩ := by
  by_cases h : pages < 2 <;> simp [StoreMap.recovered, Store.initial, Store.isSplitting, h]

/-- Settles O5: the regions by `dataRegion_eq`, then `recover_blank`; without a region the part stays as it was loaded. -/
theorem blankPartInitializesItself : Obligations.BlankPartInitializesItself := by
  refine ⟨fun i s env cause hm hi => ?_, fun i s env hm hi hf ha => ?_⟩
  · intro l array fits base pages first last kept low size hfits
    have hj : l.journalRegion array = some (base, pages, if fits then 0 else l.journalEntries) := by
      by_cases h : fits
      · simp only [Loaded.journalRegion, base, pages, if_pos h]
        exact if_pos h
      · simp only [Loaded.journalRegion, base, pages, if_neg h]
        exact (if_neg h).trans (if_pos (hfits.resolve_left h))
    have hd : l.dataRegion array base pages = (low, size, if kept then 0 else l.dataEntries) :=
      dataRegion_eq l array base pages
    have e := startUp_exec hi
    rw [startUp_initializes cause env hm hj, initializeTables_some hj,
      show l.dataRegion (min env.arrayBlocks Config.numbersEnd) base pages = _ from hd] at e
    obtain ⟨h1, h2, h3, h4, h5, h6, h7, h8, h9, h10, h11⟩ := recover_blank (s := { s.loaded env with
        settings := { l.settings with skipped :=
          l.settings.skipped + (if fits then 0 else l.journalEntries) + (if kept then 0 else l.dataEntries) }
        storeMap := ⟨low, size, [Store.initial low size], none⟩
        classes := ⟨l.classes, false⟩
        holds := ⟨[], 0⟩
        et := ⟨[], 1, []⟩
        clock := Clock.reset 0
        journal := ⟨base, pages, [], 1, 0, 0, [], 0, none, []⟩
        marker := true }) cause true rfl rfl (recovered_initial low size low size) rfl
    have hl : (s.loaded env).settings = l.settings := by
      show (loadImage s.marker env.image).settings = _
      rw [hm]
    have hro : (s.loaded env).router.routes = l.routes := by
      show (loadImage s.marker env.image).routes = _
      rw [hm]
    rw [hl] at e
    exact ⟨_, e, h1, h2, h3, h4, h5, h6, congrArg (·.seconds) h7, h8, h9, h10.trans hro, h11⟩
  · have hr : (loadImage false env.image).journalRegion (min env.arrayBlocks Config.numbersEnd) = none := by
      rw [Loaded.journalRegion, if_neg (by exact Nat.not_le.2 hf), if_neg (by omega)]
    obtain ⟨cause, hc⟩ : ∃ cause : Cause, (i = .powerOn env ∧ s.phase = .off ∧ cause = .powerOn) ∨
        (i = .resetNRelease env ∧ s.phase = .held ∧ cause = .resetN) :=
      hi.elim (fun h => ⟨.powerOn, .inl ⟨h.1, h.2, rfl⟩⟩) fun h => ⟨.resetN, .inr ⟨h.1, h.2, rfl⟩⟩
    have e := startUp_exec hc
    rw [startUp_stays cause env hm hr] at e
    exact ⟨_, e, rfl, hm, rfl, rfl, rfl, rfl, rfl, rfl⟩

end Sys2Proof.Machine
end

section
/-! SUPPORT. The kinds that only report: the returned extent record field by field (13.3), the sections of STATUS (13.4), and
JOURNAL_READ (R162). -/

namespace Sys2Proof.Machine

/-! ### The returned extent record (13.3) -/

/-- The fields of the returned record, in order. -/
def recordFields (s : State) (r : Extent) : List (List Byte) :=
  [le 4 r.number, le 8 r.key, le 2 r.group, le 1 r.store, le 1 r.cls, le 1 (nodeCode r.opener), le 1 r.state.code,
    le 2 r.presence, le 4 r.start, le 2 r.count, le 1 (s.readerCount r.number), orZero 1 (r.inFlight.map InFlight.code),
    orZero 8 r.lastActivity, orZero 4 (r.running.map BitVec.toNat), orZero 4 r.commitSecond,
    orZero 1 (r.provisional.map Bool.toNat), orZero 1 (r.integrity.map Integrity.code), orZero 2 r.floor,
    orZero 4 (r.check.map BitVec.toNat), orZero 4 r.lastVerified, orZero 1 (r.sub.map SubState.code),
    orZero 1 r.attempts, orZero 1 (r.voidCause.map VoidCause.code), le 1 (s.derivedBits r),
    if r.retained then le 2 (s.expiry r) else [0, 0], [0, 0], orZero 4 r.disposalSecond, orZero 8 r.dispSeq]

/-- Their sizes. -/
def recordSizes : List Nat :=
  [4, 8, 2, 1, 1, 1, 1, 2, 4, 2, 1, 1, 8, 4, 4, 1, 1, 2, 4, 4, 1, 1, 1, 1, 2, 2, 4, 8]

theorem extentRecord_eq_flatten (s : State) (r : Extent) : s.extentRecord r = (recordFields s r).flatten := by
  unfold State.extentRecord recordFields
  simp only [List.append_assoc]
  simp only [List.flatten_cons, List.flatten_nil, List.append_nil]

theorem recordFields_sizes (s : State) (r : Extent) : (recordFields s r).map List.length = recordSizes := by
  simp [recordFields, recordSizes, orZero, apply_ite List.length]

theorem extentRecord_length (s : State) (r : Extent) : (s.extentRecord r).length = 76 := by
  rw [extentRecord_eq_flatten, List.length_flatten, recordFields_sizes]
  rfl

/-- A field stands behind the sizes of the fields before it. -/
theorem part_flatten {L : List (List Byte)} {i : Nat} {f : List Byte} (h : L[i]? = some f) :
    (L.flatten.drop ((L.map List.length).take i).sum).take f.length = f := by
  have hL : L = L.take i ++ f :: L.drop (i + 1) := by
    obtain ⟨hi, rfl⟩ := List.getElem?_eq_some_iff.1 h
    simp
  have hf : L.flatten = (L.take i).flatten ++ (f ++ (L.drop (i + 1)).flatten) := by
    conv_lhs => rw [hL]
    simp
  rw [hf, ← List.map_take, ← List.length_flatten, List.drop_left, List.take_left]

/-- The `i`-th field of the returned record. -/
theorem record_part (s : State) (r : Extent) {i n : Nat} {f : List Byte} (h : (recordFields s r)[i]? = some f)
    (hn : recordSizes[i]? = some n) : ((s.extentRecord r).drop (recordSizes.take i).sum).take n = f := by
  have hl : f.length = n := by
    rw [← recordFields_sizes s r, List.getElem?_map, h] at hn
    exact Option.some.inj hn
  rw [extentRecord_eq_flatten, ← recordFields_sizes s r, ← hl]
  exact part_flatten h

/-! ### The hand-over does not show in a report -/

theorem extentRecord_takeMark (s : State) (m : Master) : (s.takeMark m).extentRecord = s.extentRecord := by
  rcases m with (_ | _) | _ <;> rfl

theorem section_takeMark (s : State) (m k : Master) (n : Nat) : (s.takeMark m).section k n = s.section k n := by
  have hl : (s.takeMark m).statusLinks k = s.statusLinks k := by
    simp only [State.statusLinks, State.slots_takeMark]
    rcases m with (_ | _) | _ <;> rfl
  have hc : (s.takeMark m).statusClock = s.statusClock := by rcases m with (_ | _) | _ <;> rfl
  unfold State.section
  split
  · simp [State.statusStores, State.splitLeft]
  · simp [State.statusMedia]
  · rw [hc]
  · simp [State.statusEngine, State.readerCount, State.extent_takeMark]
  · simp [State.statusJournal, State.pageWrite]
  · simp [State.statusTables]
  · rw [hl]
  · rfl

/-! ### QUERY, FIND and STATUS -/

theorem query_eq {s : State} {h : HandOver} {c : Capsule} {n : Nat} (R : Reaches s h c (.query n) []) :
    exec (.query h) s =
      if n = 0 ∨ s.et.next ≤ n then .next ((s.takeMark c.master).finish c s.cport.role .notFound [])
      else match s.extent n with
        | none => .next ((s.takeMark c.master).finish c s.cport.role .evicted [])
        | some r => .next ((s.takeMark c.master).finish c s.cport.role .ok (s.extentRecord r)) := by
  have e : exec (.query h) s = .next ((s.takeMark c.master).conclude c
      (judgeQuery (Ctx.of s c []) (.query n) (s.takeMark c.master))) :=
    congrArg _ (State.handOver_of_reaches R judgeQuery)
  rw [e]
  dsimp only [judgeQuery]
  simp only [State.extent_takeMark, State.takeMark_frame, extentRecord_takeMark]
  by_cases h0 : n = 0 ∨ s.et.next ≤ n
  · rw [if_pos h0, if_pos h0, State.conclude_done]
  rw [if_neg h0, if_neg h0]
  cases s.extent n <;> exact congrArg _ (State.conclude_done ..)

theorem find_eq {s : State} {h : HandOver} {c : Capsule} {key : Nat} (R : Reaches s h c (.find key) []) :
    exec (.find h) s =
      if key = 0 then .next (s.answered c .refused .badKey none [])
      else match (s.keyOwner key).bind s.extent with
        | none => .next ((s.takeMark c.master).finish c s.cport.role .notFound [])
        | some r => .next ((s.takeMark c.master).finish c s.cport.role .ok (s.extentRecord r)) := by
  have e : exec (.find h) s = .next ((s.takeMark c.master).conclude c
      (judgeFind (Ctx.of s c []) (.find key) (s.takeMark c.master))) :=
    congrArg _ (State.handOver_of_reaches R judgeFind)
  rw [e]
  dsimp only [judgeFind]
  simp only [State.extent_takeMark, State.keyOwner_takeMark, extentRecord_takeMark]
  by_cases h0 : key = 0
  · rw [if_pos h0, if_pos h0, State.conclude_refuse]
  rw [if_neg h0, if_neg h0]
  cases (s.keyOwner key).bind s.extent <;> exact congrArg _ (State.conclude_done ..)

theorem status_eq {s : State} {h : HandOver} {c : Capsule} {n : Nat} (R : Reaches s h c (.status n) []) :
    exec (.status h) s = match s.section c.master n with
      | none => .next (s.answered c .refused .badRange none [])
      | some bytes => .next ((s.takeMark c.master).finish c s.cport.role .ok bytes) := by
  have e : exec (.status h) s = .next ((s.takeMark c.master).conclude c
      (judgeStatus (Ctx.of s c []) (.status n) (s.takeMark c.master))) :=
    congrArg _ (State.handOver_of_reaches R judgeStatus)
  rw [e]
  dsimp only [judgeStatus, Ctx.of]
  rw [section_takeMark]
  cases s.section c.master n with
  | none => exact congrArg _ (State.conclude_refuse ..)
  | some bytes => exact congrArg _ (State.conclude_done ..)

/-! ### JOURNAL_READ -/

/-- The last WRITTEN page that begins at or below the sequence (R162). -/
theorem pageOf_eq {j : Journal} {seq k first count : Nat} (hk : j.pageList[k]? = some (.written first count))
    (hf : first ≤ seq) (hlast : ∀ i f n, k < i → j.pageList[i]? = some (.written f n) → seq < f) :
    j.pageOf seq = some (k, first) := by
  unfold Journal.pageOf
  generalize j.pageList = l at hk hlast
  induction l using List.reverseRecOn with
  | nil => simp at hk
  | append_singleton l e ih =>
    rw [List.zipIdx_append, List.reverse_append]
    simp only [List.zipIdx_cons, List.zipIdx_nil, List.reverse_cons, List.reverse_nil, List.nil_append,
      List.singleton_append, List.findSome?_cons, Nat.zero_add]
    rcases Nat.lt_trichotomy k l.length with hl | rfl | hl
    · rw [ih (by rwa [List.getElem?_append_left hl] at hk) fun i f n hi h => hlast i f n hi
        (by rw [List.getElem?_append_left (List.getElem?_eq_some_iff.1 h).1, h])]
      cases e with
      | written f n =>
        have := hlast l.length f n hl (by simp)
        simp [PageEntry.writtenFirst, Nat.not_le.2 this]
      | _ => simp [PageEntry.writtenFirst]
    · obtain rfl : e = .written first count := by simpa using hk
      simp [PageEntry.writtenFirst, hf]
    · have := (List.getElem?_eq_some_iff.1 hk).1
      simp at this
      omega

/-- JOURNAL_READ of a sequence there is no record of (R162). -/
theorem journalRead_exec {s : State} {h : HandOver} {c : Capsule} {seq : Nat} (hc : c.master = .cport)
    (R : Reaches s h c (.journalRead seq) []) :
    exec (.journalRead h) s = .next (s.conclude c (judgeJournalRead (Ctx.of s c []) (.journalRead seq) s)) := by
  have e : exec (.journalRead h) s = .next ((s.takeMark c.master).conclude c
      (judgeJournalRead (Ctx.of s c []) (.journalRead seq) (s.takeMark c.master))) :=
    congrArg _ (State.handOver_of_reaches R judgeJournalRead)
  rwa [hc] at e

theorem firstOf_eq {j : Journal} {k first count : Nat} (hk : j.pageList[k]? = some (.written first count)) :
    j.firstOf k = first := by
  simp [Journal.firstOf, hk, PageEntry.writtenFirst]

/-! ### The sections of STATUS (13.4) -/

theorem orAbsent_eq (n : Nat) (v : Option Nat) :
    orAbsent n v = match v with | some x => le n x | none => List.replicate n 0xFF := by
  cases v <;> rfl

theorem store_statusBytes_eq (st : Store) :
    st.statusBytes = le 4 st.base ++ le 8 st.frontier ++ le 8 st.limit ++ le 1 st.reservation ++
      ([match st.state with | .active => 0 | .splitting => 1 | .full => 2] : List Byte) ++ [0] ++ [0] ++
      le 4 (st.openExtent.getD 0) := by
  have hc : le 1 st.state.code = [match st.state with | .active => 0 | .splitting => 1 | .full => 2] := by
    cases st.state <;> rfl
  rw [Store.statusBytes, hc]
  simp only [List.append_assoc]
  rfl

theorem slot_statusBytes_eq (v : Slot) :
    v.statusBytes = match v with
      | .free => [Config.slotStateCode 0, 0xFF, 0xFF]
      | .running h _ => [Config.slotStateCode 1] ++ le 1 h.tag.toNat ++ le 1 (field 2 1 h.capsule)
      | .finished h _ => [Config.slotStateCode 2] ++ le 1 h.tag.toNat ++ le 1 (field 2 1 h.capsule)
      | .detached _ => [Config.slotStateCode 3, 0xFF, 0xFF] := by
  cases v <;> rfl

theorem link_statusBytes_eq (l : LinkState) :
    l.statusBytes = flag l.up ++ le 6 l.base ++ le 6 l.limit ++ flag (decide (l.base ≤ l.limit)) ++
      le 1 (l.slots.filter (fun v => match v with | .free => true | _ => false)).length ++
      le 1 (l.slots.filter (fun v => match v with | .running _ _ => true | _ => false)).length ++
      le 1 (l.slots.filter (fun v => match v with | .finished _ _ => true | _ => false)).length ++
      le 1 (l.slots.filter (fun v => match v with | .detached _ => true | _ => false)).length := by
  have count (k : Nat) (f : Slot → Bool) (h : ∀ v : Slot, (v.stateIndex == k) = f v) :
      l.slots.countP (fun v => v.stateIndex == k) = (l.slots.filter f).length := by
    rw [List.countP_eq_length_filter, funext h]
  rw [← count 0 _ fun v => by cases v <;> rfl, ← count 1 _ fun v => by cases v <;> rfl,
    ← count 2 _ fun v => by cases v <;> rfl, ← count 3 _ fun v => by cases v <;> rfl]
  simp [LinkState.statusBytes, LinkState.statusBytes.windowBytes6, LinkState.statusBytes.slotCounts, List.range_succ]

theorem who_eq (o : Master) :
    le 1 (masterCode o) = [match o with | .node .a => 1 | .node .b => 2 | .cport => 3] := by
  rcases o with (_ | _) | _ <;> rfl

/-- What section 1 says of the operation in flight (R88, 13.4). -/
theorem channel_bytes (m : Media) :
    flag m.channel.isSome ++ m.kindByte ++ orAbsent 1 (m.originInFlight.map masterCode) =
      match m.channel with
      | none => [0, 0xFF, 0xFF]
      | some f => flag true ++ [Config.mediaKindCode (match f.op.requester with
          | .append _ | .trailer _ => 0
          | .read _ | .verify _ | .journalRead _ => 1
          | .scrub _ => 2
          | .journalWrite _ => 3)] ++ [match f.op.origin with
          | some o => match o with | .node .a => 1 | .node .b => 2 | .cport => 3
          | none => 0xFF] := by
  unfold Media.kindByte Media.originInFlight
  cases m.channel with
  | none => rfl
  | some f =>
    have hk : f.op.requester.kindIndex = match f.op.requester with
        | .append _ | .trailer _ => 0
        | .read _ | .verify _ | .journalRead _ => 1
        | .scrub _ => 2
        | .journalWrite _ => 3 := by cases f.op.requester <;> rfl
    simp only [Option.bind_some, hk]
    cases f.op.origin with
    | none => rfl
    | some o => rcases o with (_ | _) | _ <;> rfl

theorem turnBytes_eq (m : Media) (mode : ArbMode) :
    turnBytes m mode = match mode with
      | .fixed => [0xFF, 0xFF, 0xFF]
      | .rotating => m.turn.map (fun o => match o with | .node .a => 1 | .node .b => 2 | .cport => 3) := by
  cases mode with
  | fixed => rfl
  | rotating =>
    simp only [turnBytes, who_eq, ← List.flatMap_def]
    exact List.map_eq_flatMap.symm

/-- The space state of section 4 (R160, 13.4). -/
theorem space_eq (j : Journal) :
    le 1 j.space = [if j.pages ≤ j.counter then 3 else if j.pages - 8 ≤ j.used then 2
      else if j.pages - j.pages / 16 ≤ j.used then 1 else 0] := by
  have hf : j.full = true ↔ j.pages ≤ j.counter := decide_eq_true_iff
  have hx : j.exhausted = true ↔ j.pages - 8 ≤ j.used := decide_eq_true_iff
  unfold Journal.space
  by_cases h1 : j.pages ≤ j.counter
  · rw [if_pos (hf.2 h1), if_pos h1]
    rfl
  rw [if_neg (mt hf.1 h1), if_neg h1]
  by_cases h2 : j.pages - 8 ≤ j.used
  · rw [if_pos (hx.2 h2), if_pos h2]
    rfl
  rw [if_neg (mt hx.1 h2), if_neg h2]
  by_cases h3 : j.pages - j.pages / 16 ≤ j.used
  · rw [if_pos (by exact h3), if_pos h3]
    rfl
  · rw [if_neg (by exact h3), if_neg h3]
    rfl

theorem isScrub_eq :
    MediaOp.isScrub = fun op => match op.requester with | .scrub _ => true | _ => false := by
  funext op
  cases h : op.requester <;> simp [MediaOp.isScrub, h]

theorem isPage_eq :
    MediaOp.isPage = fun op => match op.requester with | .journalWrite _ => true | _ => false := by
  funext op
  cases h : op.requester <;> simp [MediaOp.isPage, h]

/-- The engine has a head unless it is IDLE (9.3). -/
theorem head_eq (e : Engine) : e.head = if e.stage = .idle then none else e.queue.head? := by
  cases h : e.stage <;> simp [Engine.head, h]

theorem stage_byte (g : Stage) :
    le 1 g.code = [match g with | .idle => 0 | .readers => 1 | .placed => 2 | .scrubbing => 3 | .recording => 4] := by
  cases g <;> rfl

/-- The sub-state of the head's record, absent without one (13.4). -/
theorem sub_byte (v : Option Extent) :
    orAbsent 1 (v.bind (fun x => x.sub.map SubState.code)) = [match v.bind (·.sub) with
      | some .queued => 1 | some .scrubNext => 2 | some .scrubbing => 3 | none => 0xFF] := by
  cases v with
  | none => rfl
  | some r =>
    simp only [Option.bind_some]
    rcases r.sub with _ | (_ | _ | _) <;> rfl

theorem flushed_eq (j : Journal) :
    j.flushed = match j.buffer with | [] => j.nextSeq | e :: _ => e.record.seq := by
  unfold Journal.flushed
  cases j.buffer <;> rfl

theorem faulted_count (j : Journal) :
    j.pageList.countP (·.isFaulted) =
      (j.pageList.filter (fun e => match e with | .faulted => true | _ => false)).length := by
  rw [List.countP_eq_length_filter]
  exact congrArg (fun f => (j.pageList.filter f).length) (funext fun e => by cases e <;> rfl)

theorem section_of_above (s : State) (m : Master) {n : Nat} (h : 6 < n) : s.section m n = none := by
  obtain ⟨k, rfl⟩ : ∃ k, n = k + 7 := ⟨n - 7, by omega⟩
  rfl

theorem section_of_le (s : State) (m : Master) {n : Nat} (h : n ≤ 6) : ∃ bytes, s.section m n = some bytes := by
  interval_cases n <;> exact ⟨_, rfl⟩

/-! ### The fields that are not numbers -/

theorem presence_eq (r : Extent) :
    let bit (k : Nat) (b : Bool) : Nat := if b then 2 ^ k else 0
    r.presence = bit 0 r.lastActivity.isSome + bit 1 r.inFlight.isSome + bit 2 r.running.isSome +
      bit 3 r.commitSecond.isSome + bit 4 r.provisional.isSome + bit 5 r.check.isSome + bit 6 r.integrity.isSome +
      bit 7 r.floor.isSome + bit 8 r.lastVerified.isSome + bit 9 r.sub.isSome + bit 10 r.attempts.isSome +
      bit 11 r.disposalSecond.isSome + bit 12 r.voidCause.isSome + bit 13 r.dispSeq.isSome := by
  have hb (k : Nat) (b : Bool) : (if b then 2 ^ k else 0) = b.toNat * 2 ^ k := by cases b <;> simp
  simp only [hb, Extent.presence, bitsNat]
  ring

theorem retained_iff (r : Extent) :
    r.retained = true ↔ r.state = .committed ∨ r.state = .disposing ∨ r.state = .disposalFailed := by
  cases h : r.state <;> simp [Extent.retained, h]

/-- The derived conditions in the record (R20, 13.3). -/
theorem derivedBits_eq (s : State) (r : Extent) :
    let bit (k : Nat) (b : Bool) : Nat := if b then 2 ^ k else 0
    s.derivedBits r = if r.state = .committed ∨ r.state = .disposing ∨ r.state = .disposalFailed then
      bit 0 (s.expired r) + bit 1 (s.isHeld r) + bit 2 (s.custodianOnly r) + 128 else 0 := by
  have hb (k : Nat) (b : Bool) : (if b then 2 ^ k else 0) = b.toNat * 2 ^ k := by cases b <;> simp
  simp only [hb, State.derivedBits, retained_iff]
  congr 1
  ring

/-! ### The statement -/

/-- Settles O54: the reports by `query_eq`, `find_eq` and `status_eq`, the record field by field, the sections one by one,
and JOURNAL_READ with the end of its FETCH. -/
theorem reportsChangeNothing : Obligations.ReportsChangeNothing := by
  refine ⟨fun s h c n R => query_eq R, fun s h c key R => find_eq R, extentRecord_length,
    fun s h c n R => ⟨fun hn => ?_, fun hn => ?_⟩, fun s r => ?_, fun s m => ?_, fun s h c seq hc R => ?_,
    fun s ref held seq k first count at_ blocks o ha hs hk => ⟨fun page hp => ?_, ?_⟩⟩
  · rw [status_eq R]
    rw [section_of_above s c.master hn]
  · obtain ⟨bytes, hb⟩ := section_of_le s c.master hn
    exact ⟨bytes, hb, by rw [status_eq R, hb]⟩
  · intro part bit
    refine ⟨record_part s r (i := 0) rfl rfl, record_part s r (i := 1) rfl rfl, record_part s r (i := 2) rfl rfl,
      record_part s r (i := 3) rfl rfl, record_part s r (i := 4) rfl rfl,
      (record_part s r (i := 5) rfl rfl).trans ?_, (record_part s r (i := 6) rfl rfl).trans ?_,
      (record_part s r (i := 7) rfl rfl).trans (congrArg (le 2) (presence_eq r)),
      record_part s r (i := 8) rfl rfl, record_part s r (i := 9) rfl rfl, record_part s r (i := 10) rfl rfl,
      (record_part s r (i := 11) rfl rfl).trans ?_, record_part s r (i := 12) rfl rfl,
      (record_part s r (i := 13) rfl rfl).trans ?_, record_part s r (i := 14) rfl rfl,
      (record_part s r (i := 15) rfl rfl).trans ?_, (record_part s r (i := 16) rfl rfl).trans ?_,
      record_part s r (i := 17) rfl rfl, (record_part s r (i := 18) rfl rfl).trans ?_,
      record_part s r (i := 19) rfl rfl, (record_part s r (i := 20) rfl rfl).trans ?_,
      record_part s r (i := 21) rfl rfl, (record_part s r (i := 22) rfl rfl).trans ?_,
      (record_part s r (i := 23) rfl rfl).trans (congrArg (le 1) (derivedBits_eq s r)),
      (record_part s r (i := 24) rfl rfl).trans ?_, record_part s r (i := 25) rfl rfl,
      record_part s r (i := 26) rfl rfl, record_part s r (i := 27) rfl rfl⟩
    · cases r.opener <;> rfl
    · cases r.state <;> rfl
    · rcases r.inFlight with _ | (_ | _ | _) <;> rfl
    · cases r.running <;> rfl
    · rcases r.provisional with _ | (_ | _) <;> rfl
    · rcases r.integrity with _ | (_ | _ | _) <;> rfl
    · cases r.check <;> rfl
    · rcases r.sub with _ | (_ | _ | _) <;> rfl
    · rcases r.voidCause with _ | (_ | _ | _ | _) <;> rfl
    · simp only [retained_iff]
  · intro one who waits scrub page head record j issued linkBytes slotBytes
    refine ⟨?_, ?_, rfl, ?_, ?_, rfl, ?_, fun b => rfl, orAbsent_eq⟩
    · show some s.statusStores = _
      rw [State.statusStores, State.splitLeft, funext store_statusBytes_eq]
      cases s.storeMap.split with
      | none => rfl
      | some p => simp only [List.append_assoc]; rfl
    · have hmode : le 1 s.settings.arbiter.code =
          one (match s.settings.arbiter with | .fixed => 0 | .rotating => 1) := by
        cases s.settings.arbiter <;> rfl
      have hwaits (o : Master) : s.media.waitingOf o = waits o := List.countP_eq_length_filter
      have assoc (a b c d : List Byte) : a ++ b ++ c ++ d = a ++ (b ++ c ++ d) := by simp only [List.append_assoc]
      show some s.statusMedia = _
      dsimp only [State.statusMedia]
      rw [assoc _ (flag s.media.channel.isSome), channel_bytes, hmode, hwaits, hwaits, hwaits, isScrub_eq, isPage_eq]
      exact congrArg (fun l => some (_ ++ l)) (turnBytes_eq s.media s.settings.arbiter)
    · show some s.statusEngine = _
      rw [State.statusEngine, head_eq, stage_byte, sub_byte] <;> rfl
    · show some s.statusJournal = _
      dsimp only [State.statusJournal, State.pageWrite]
      rw [isPage_eq, space_eq, flushed_eq, faulted_count] <;> rfl
    · show some (s.statusLinks m) = _
      rw [State.statusLinks, link_statusBytes_eq, link_statusBytes_eq]
      exact congrArg (fun f => some (_ ++ _ ++ ((s.slots m).map f).flatten)) (funext slot_statusBytes_eq)
  · have no := State.conclude_refuse s c
    have done := State.conclude_done s s c
    have take (t : State) := State.conclude_take s t c
    rw [show s.takeMark c.master = s by rw [hc]; rfl] at no done take
    rw [journalRead_exec hc R]
    dsimp only [judgeJournalRead, Ctx.of]
    refine ⟨fun h0 => ?_, fun h0 h1 => ⟨fun e he => ?_, fun hb => ⟨fun hn => ?_, fun i k first count hi hk hf hl => ?_⟩⟩⟩
    · rw [if_pos h0, done]
    · rw [if_neg (by omega), Journal.bufferedRecord, he]
      dsimp only [Option.map_some]
      rw [done]
      rfl
    · have hnone : s.journal.bufferedRecord seq = none := by
        simpa [Journal.bufferedRecord] using hb
      rw [if_neg (by omega), hnone, hc, hn]
      dsimp only
      rw [no]
    · have hnone : s.journal.bufferedRecord seq = none := by
        simpa [Journal.bufferedRecord] using hb
      rw [if_neg (by omega), hnone, hc, hi, pageOf_eq hk hf hl]
      dsimp only
      rw [take]
      rfl
  · show execJournalReadFetchDone (some page) s = _
    simp only [execJournalReadFetchDone, ha, Option.all_some, hp]
    rw [if_pos (by simp [Config.blockBytes])]
    simp only [State.pageFetched, hs, firstOf_eq hk]
    rfl
  · show execJournalReadFetchDone none s = _
    simp only [execJournalReadFetchDone, ha, State.pageFetched, hs]
    rfl

end Sys2Proof.Machine
end

section
/-! SUPPORT. APPEND as the owner judges it (R27, R42, R43, R55). -/

namespace Sys2Proof.Machine

/-! ### APPEND -/

theorem beginAppend_changeAt (n : Nat) :
    Extent.changeAt n Extent.beginAppend = fun x =>
      if x.number = n ∧ x.state = .opened ∧ x.inFlight = some .nothing then { x with inFlight := some .append }
      else x := by
  funext x
  by_cases hn : x.number = n
  · simp [Extent.changeAt, Extent.beginAppend, Extent.quietOpen, hn]
  · simp [Extent.changeAt, hn]

/-- The state after an APPEND is taken, but for its slot, field by field (R43). -/
theorem beginAppend_eq (s : State) (r : Extent) (blocks : Nat) :
    s.beginAppend r blocks = { s with
      storeMap := { s.storeMap with
        stores := s.storeMap.stores.modify r.store (fun x => { x with reservation := blocks }) }
      et := s.et.mod r.number Extent.beginAppend
      write := s.write.set r.store ⟨.filling, .idle⟩
      journal := { s.journal with waits := s.journal.waits.erase (.openTimeout r.store) } } := rfl

/-- Settles O33: the owner's checks one after the other, on the state with the link's mark cleared. -/
theorem appendIsJudgedAndTaken : Obligations.AppendIsJudgedAndTaken := by
  intro s h c ext blocks frags R
  have e : exec (.append h) s = .next ((s.takeMark c.master).conclude c
      (judgeAppend (Ctx.of s c frags) (.append ext blocks) (s.takeMark c.master))) :=
    congrArg _ (State.handOver_of_reaches R judgeAppend)
  have no (code : Code) := State.conclude_refuse s c code []
  dsimp only [judgeAppend, Ctx.of] at e
  rw [show Config.maxRun = 32 from rfl, show Config.maxBlocks = 4096 from rfl] at e
  refine ⟨fun hb => ?_, fun r st h1 h32 hext hnext he hm ho hi hst => ?_⟩
  · rw [e, if_pos (by simp; omega), no]
  · obtain rfl := State.extent_number he
    have hw : (s.takeMark c.master).writable c.master r.number = .ok r := by
      have := writable_ok (s := s.takeMark c.master) hext (by simpa using hnext)
        (by rw [State.extent_takeMark]; exact he) ho hi
      rwa [← hm] at this
    rw [e, if_neg (by simp; omega), hw]
    dsimp only
    by_cases hfull : 4096 < r.count + blocks
    · rw [if_pos hfull, if_pos hfull, no]
    rw [if_neg hfull, if_neg hfull, State.store_takeMark, hst, Option.any_some]
    by_cases hroom : st.limit < st.frontier + st.reservation + blocks + 1
    · rw [if_pos (by simpa [Store.hasRoom] using hroom), if_pos hroom, no]
    rw [if_neg (by simpa [Store.hasRoom] using hroom), if_neg hroom]
    cases s.freeSlot c.master with
    | none => dsimp only; rw [no]
    | some i =>
      dsimp only
      rw [State.conclude_take, beginAppend_eq]
      simp only [ExtentTable.mod, beginAppend_changeAt, State.takeMark_frame]

end Sys2Proof.Machine
end

section
/-! SUPPORT. The stores: when a split asks for its place, SPLIT as the owner judges it, and both ends of a split (R30
to R33). -/

namespace Sys2Proof.Machine

/-! ### When a place is free, and when a split asks for one -/

theorem takesNow_iff (j : Journal) : j.takesNow = true ↔ j.buffer.length < 64 ∨ j.pages ≤ j.counter := by
  unfold Journal.takesNow Journal.hasPlace Journal.full
  rw [Bool.or_eq_true, decide_eq_true_eq, decide_eq_true_eq]
  exact Iff.rfl

theorem grants_iff (j : Journal) :
    j.grants = true ↔ j.waits = [] ∧ j.mark = none ∧ (j.buffer.length < 64 ∨ j.pages ≤ j.counter) := by
  simp [Journal.grants, takesNow_iff, and_assoc]

theorem quiet_iff (m : StoreMap) :
    m.quiet = true ↔ ¬ ∃ st ∈ m.stores, st.state = .splitting ∧ st.openExtent ≠ none := by
  simp [StoreMap.quiet, Store.isSplitting, imp_iff_not_or]

/-- Once its stores are quiet a split asks for its place, and once only (R32). -/
theorem askSplit_eq (s : State) : s.askSplit =
    if s.storeMap.split = none ∨ (∃ st ∈ s.storeMap.stores, st.state = .splitting ∧ st.openExtent ≠ none) ∨
        .splitDone ∈ s.journal.waits then s
    else if s.journal.waits = [] ∧ s.journal.mark = none ∧
        (s.journal.buffer.length < 64 ∨ s.journal.pages ≤ s.journal.counter) then s.settle .splitDone
    else { s with journal := { s.journal with waits := s.journal.waits ++ [.splitDone] } } := by
  have hasks : (s.storeMap.split.isSome && s.storeMap.quiet && !s.journal.waits.contains .splitDone) = true ↔
      ¬ (s.storeMap.split = none ∨ (∃ st ∈ s.storeMap.stores, st.state = .splitting ∧ st.openExtent ≠ none) ∨
        .splitDone ∈ s.journal.waits) := by
    rw [not_or, not_or, ← quiet_iff]
    simp [Option.isSome_iff_ne_none, and_assoc]
  unfold State.askSplit
  rw [ite_cond_congr (propext hasks), ite_not, ite_cond_congr (propext (grants_iff s.journal))]
  rfl

/-! ### SPLIT -/

/-- A SPLIT that is refused asks for no place: the split that may be pending is another one. -/
theorem refused_split_asks_nothing (s : State) (c : Capsule) (code : Code) :
    let t := s.answered c .refused code none []
    (if s.storeMap.split.isSome then t else t.askSplit.judgeSince t) = t := by
  intro t
  split
  · rfl
  · next h =>
    have ht : t.storeMap.split = none := by simpa [t, State.answered] using h
    rw [State.askSplit_none ht]
    exact if_pos rfl

/-! ### The ends of a split -/

theorem boundary_eq : Store.boundary = fun st => st.frontier + (st.limit - st.frontier) / 2 / 64 * 64 := by
  funext st
  rw [Store.boundary, Nat.div_div_eq_div_mul]

theorem failSplit_of_pending {s : State} {p : PendingSplit} (hp : s.storeMap.split = some p) (code : Code) :
    s.failSplit code = ((s.withStoreMap { s.storeMap with
      stores := s.storeMap.stores.map (fun st => if st.state = .splitting then { st with state := .active } else st)
      split := none }).dropWait .splitDone).endSlot ⟨.cport, p.slot⟩ ⟨code, []⟩ := by
  simp [State.failSplit, hp, Store.isSplitting]

/-- The application of a split, with the boundary of every store written out (R32). -/
theorem settleSplit_of_pending {s : State} {p : PendingSplit} (hp : s.storeMap.split = some p) :
    let old := s.storeMap.stores
    let half (st : Store) : Nat := st.frontier + (st.limit - st.frontier) / 2 / 64 * 64
    s.settleSplit = ((((s.record (.master .cport) (.splitDone old.length (2 * old.length) (old.map half))).withStoreMap
      { s.storeMap with
        stores := old.map (fun st => { st with limit := half st, state := .active }) ++
          old.map (fun st => ⟨half st, st.limit, half st, 0, none, .active⟩)
        split := none }).endSlot ⟨.cport, p.slot⟩
      ⟨.ok, le 1 (2 * old.length) ++ [0, 0, 0] ++ ((old.map half).map (le 4)).flatten⟩).raise .splitDone none) := by
  intro old half
  have hb : Store.boundary = half := boundary_eq
  unfold State.settleSplit
  rw [hp]
  dsimp only [splitStores, splitFields]
  rw [show Store.lower = fun st => { st with limit := half st, state := .active } by rw [← hb]; rfl,
    show Store.upper = fun st => ⟨half st, st.limit, half st, 0, none, .active⟩ by rw [← hb]; rfl, hb]
  simp only [State.record_frame, old]

/-- Settles O53: the checks one after the other, then the split asks for its place in the step in which it was taken;
the place, the grant and both ends by their equations. -/
theorem storesAreSplit : Obligations.StoresAreSplit := by
  refine ⟨fun s h c target hc R => ?_, askSplit_eq, fun s t => rfl, fun s hg => ?_,
    fun s p hp => ⟨settleSplit_of_pending hp, ?_⟩⟩
  · intro no stores
    have hs : s.takeMark c.master = s := by rw [hc]; rfl
    have hno (code : Code) : s.conclude c (.refuse code []) = s.answered c .refused code none [] := by
      simpa only [hs] using State.conclude_refuse s c code []
    have hand : s.handOver h .split judgeSplit =
        s.conclude c (judgeSplit (Ctx.of s c []) (.split target) s) := by
      have := State.handOver_of_reaches R judgeSplit
      rwa [hs] at this
    have refused := refused_split_asks_nothing s c
    dsimp only at refused
    show execSplit h s = _
    unfold execSplit
    rw [hand]
    dsimp only [judgeSplit, Ctx.of]
    by_cases hshape : target ≠ 2 * stores.length ∨ 4 ≤ stores.length
    · rw [if_pos hshape, if_pos hshape, hno, refused]
    rw [if_neg hshape, if_neg hshape]
    by_cases hpend : s.storeMap.split.isSome = true
    · simp only [hpend, if_true, hno, no]
    simp only [hpend, Bool.false_eq_true, if_false] at refused ⊢
    rw [show (stores.any fun st => st.state == .full || decide (st.limit < st.frontier + 8192)) =
      stores.any (·.tooSmall) from rfl]
    by_cases hsmall : stores.any (·.tooSmall) = true
    · rw [if_pos hsmall, if_pos hsmall, hno, refused]
    rw [if_neg hsmall, if_neg hsmall]
    by_cases hspace : s.journal.exhausted = true
    · rw [if_pos hspace, if_pos (by exact of_decide_eq_true hspace), hno, refused]
    rw [if_neg hspace, if_neg (by exact fun h => hspace (decide_eq_true h)), hc]
    cases s.freeSlot .cport with
    | none => dsimp only; rw [hno, refused]
    | some i =>
      rfl
  · show Host.Outcome.next (s.grantPlace .splitDone) = _
    rw [State.grantPlace, if_pos hg]
  · show execSplitTimeout s = _
    unfold execSplitTimeout State.splitDue
    rw [hp]
    by_cases hdue : p.accepted + 600 ≤ s.clock.tick
    · rw [if_pos hdue, if_pos (by exact decide_eq_true hdue), failSplit_of_pending hp]
    · rw [if_neg hdue, if_neg (by rw [decide_eq_true_eq]; exact hdue)]

end Sys2Proof.Machine
end

section
/-! SUPPORT. Page writes: what their ends make of the journal, and the grants of a step, counted by those still due (R155 to
R161). -/

namespace Sys2Proof.Machine

/-! ### How many places a step may still have to grant -/

/-- The requests that wait, and the one that a pending split may still bring about (R32, R155). -/
def State.dueGrants (s : State) : Nat :=
  s.journal.waits.length + if s.storeMap.split.isSome ∧ .splitDone ∉ s.journal.waits then 1 else 0

theorem dueGrants_congr {s t : State} (hm : t.storeMap.split = s.storeMap.split)
    (hw : t.journal.waits = s.journal.waits) : t.dueGrants = s.dueGrants := by
  unfold State.dueGrants
  rw [hm, hw]

theorem dueGrants_le_waits (s : State) : s.dueGrants ≤ s.journal.waits.length + 1 := by
  unfold State.dueGrants
  split <;> omega

theorem dueGrants_of_no_split {s : State} (h : s.storeMap.split = none) : s.dueGrants = s.journal.waits.length := by
  simp [State.dueGrants, h]

/-- A request that is given up, other than the split's own, is due no longer. -/
theorem dueGrants_dropWait_le (s : State) {r : PlaceRequest} (hr : r ≠ .splitDone) :
    (s.dropWait r).dueGrants ≤ s.dueGrants := by
  have hlen : (s.journal.waits.erase r).length ≤ s.journal.waits.length := List.length_erase_le
  simp only [State.dueGrants, State.dropWait, State.withJournal_journal, State.withJournal_storeMap,
    List.mem_erase_of_ne hr.symm]
  omega

/-- The request that waits first is one of those due. -/
theorem dueGrants_dropWait_head {s : State} {r : PlaceRequest} {rest : List PlaceRequest}
    (hw : s.journal.waits = r :: rest) (hr : r ≠ .splitDone) : (s.dropWait r).dueGrants + 1 = s.dueGrants := by
  simp [State.dueGrants, State.dropWait_head hw, hw, hr.symm]
  omega

/-! ### What a grant leaves waiting -/

@[simp] theorem settleSplit_waits (s : State) : s.settleSplit.journal.waits = s.journal.waits := by
  unfold State.settleSplit
  split <;> simp

/-- A split that has been applied is pending no longer (R32). -/
theorem settleSplit_split (s : State) : s.settleSplit.storeMap.split = none := by
  unfold State.settleSplit
  split <;> simp [*]

theorem dueGrants_settleSplit_le (s : State) : s.settleSplit.dueGrants ≤ s.dueGrants := by
  rw [dueGrants_of_no_split (settleSplit_split s), settleSplit_waits]
  exact Nat.le_add_right _ _

/-- A pending split asks once: the request it brings about was due already (R32). -/
theorem dueGrants_askSplit_le (s : State) : s.askSplit.dueGrants ≤ s.dueGrants := by
  rw [askSplit_eq]
  split
  · exact le_rfl
  · next hasks =>
    obtain ⟨hsome, -, hnot⟩ := by simpa only [not_or] using hasks
    split
    · exact dueGrants_settleSplit_le s
    · simp [State.dueGrants, Option.isSome_iff_ne_none, hsome, hnot]

theorem dueGrants_voidedBy_le (s : State) (r : Extent) (o : Origin) (cause : VoidCause) :
    (s.voidedBy r o cause).dueGrants ≤ s.dueGrants := by
  rw [dueGrants_congr (s := s.dropWait (.openTimeout r.store)) (by simp [State.voidedBy])
    (by simp [State.voidedBy, State.dropWait])]
  exact dueGrants_dropWait_le s nofun

theorem dueGrants_voidExtent_le (s : State) (r : Extent) (o : Origin) (cause : VoidCause) :
    (s.voidExtent r o cause).dueGrants ≤ s.dueGrants := by
  by_cases h : r.writing = true
  · rw [voidExtent_of_writing o cause h]
    exact (dueGrants_askSplit_le _).trans (dueGrants_voidedBy_le s r o cause)
  · rw [voidExtent_of_not_writing o cause (by simpa using h)]

theorem settleIntegrity_waits (s : State) (ref : SlotRef) :
    (s.settleIntegrity ref).journal.waits = s.journal.waits := by
  unfold State.settleIntegrity
  dsimp only
  repeat' split
  all_goals simp

theorem settleDisposed_waits (s : State) : s.settleDisposed.journal.waits = s.journal.waits := by
  unfold State.settleDisposed
  dsimp only
  repeat' split
  all_goals simp

theorem settleDisposalFailed_waits (s : State) : s.settleDisposalFailed.journal.waits = s.journal.waits := by
  unfold State.settleDisposalFailed
  dsimp only
  repeat' split
  all_goals simp

theorem settleStart_waits (s : State) : s.settleStart.journal.waits = s.journal.waits := by
  unfold State.settleStart
  split <;> simp

/-- A grant brings about no request but the one of a pending split (R155, R32). -/
theorem dueGrants_settle_le (s : State) (r : PlaceRequest) : (s.settle r).dueGrants ≤ s.dueGrants := by
  cases r with
  | recovery n =>
    show (s.settleRecovery n).dueGrants ≤ _
    unfold State.settleRecovery
    split
    · exact le_rfl
    · next r _ =>
      rw [dueGrants_congr (s := s.voidExtent r .device .interrupted) (by simp) (by simp)]
      exact dueGrants_voidExtent_le s r _ _
  | start => exact (dueGrants_congr (by simp) (settleStart_waits s)).le
  | mediaFault i =>
    show (s.settleMediaFault i).dueGrants ≤ _
    unfold State.settleMediaFault
    split
    · exact le_rfl
    · next r _ =>
      rw [dueGrants_congr (s := s.voidExtent r .device .mediaFault) (by simp) (by simp)]
      exact dueGrants_voidExtent_le s r _ _
  | openTimeout i =>
    show (s.settleOpenTimeout i).dueGrants ≤ _
    unfold State.settleOpenTimeout
    split
    · exact le_rfl
    · next r _ =>
      rw [dueGrants_congr (s := s.voidExtent r .device .timeout) (by simp) (by simp)]
      exact dueGrants_voidExtent_le s r _ _
  | integrity ref => exact (dueGrants_congr (by simp) (settleIntegrity_waits s ref)).le
  | disposed => exact (dueGrants_congr (by simp) (settleDisposed_waits s)).le
  | disposalFailed => exact (dueGrants_congr (by simp) (settleDisposalFailed_waits s)).le
  | splitDone => exact dueGrants_settleSplit_le s

/-- The grant of the request that waits first leaves one grant less due. -/
theorem dueGrants_grant_lt {s : State} {r : PlaceRequest} {rest : List PlaceRequest}
    (hw : s.journal.waits = r :: rest) : ((s.dropWait r).settle r).dueGrants < s.dueGrants := by
  by_cases hr : r = .splitDone
  · subst hr
    show (s.dropWait .splitDone).settleSplit.dueGrants < _
    rw [dueGrants_of_no_split (settleSplit_split _), settleSplit_waits, State.dropWait_head hw]
    simp [State.dueGrants, hw]
  · have hdrop := dueGrants_dropWait_head hw hr
    have hsettle := dueGrants_settle_le (s.dropWait r) r
    omega

/-! ### The grants of a step -/

theorem grantMark_waits (s : State) : s.grantMark.journal.waits = s.journal.waits := by
  unfold State.grantMark
  split
  · rfl
  · split <;> simp

theorem grantMark_eq (s : State) : s.grantMark = (match s.journal.mark with
    | none => s
    | some m =>
      let u := s.record .device (.clockState m.before s.clock.state m.count)
      if s.journal.buffer.length < 64 ∨ s.journal.pages ≤ s.journal.counter then
        u.withJournal { u.journal with mark := none }
      else s) := by
  unfold State.grantMark
  cases s.journal.mark with
  | none => rfl
  | some m => exact if_congr (takesNow_iff _) rfl rfl

theorem grantWaits_succ (s : State) (n : Nat) : s.grantWaits (n + 1) = match s.journal.waits with
    | [] => s
    | r :: rest =>
      if s.journal.buffer.length < 64 ∨ s.journal.pages ≤ s.journal.counter then
        ((s.withJournal { s.journal with waits := rest }).settle r).grantWaits n
      else s := by
  rw [State.grantWaits]
  cases hw : s.journal.waits with
  | nil => rfl
  | cons r rest =>
    dsimp only
    rw [State.dropWait_head hw]
    exact if_congr (takesNow_iff _) rfl rfl

/-- Enough grants end with nothing waiting or no place left (R155, R161). -/
theorem grantWaits_exhausts (n : Nat) {s : State} (h : s.dueGrants ≤ n) :
    (s.grantWaits n).journal.waits = [] ∨ (s.grantWaits n).journal.takesNow = false := by
  induction n generalizing s with
  | zero =>
    have : s.journal.waits.length = 0 := by unfold State.dueGrants at h; omega
    exact .inl (List.length_eq_zero_iff.1 this)
  | succ n ih =>
    rw [State.grantWaits]
    split
    · next hw => exact .inl hw
    · next r rest hw =>
      split
      · have := dueGrants_grant_lt hw
        exact ih (by omega)
      · next hfull => exact .inr (by simpa using hfull)

/-- The grants of a step go on until nothing waits or no place is left (R155, R161). -/
theorem grantPlaces_exhausts (s : State) :
    s.grantPlaces.journal.waits = [] ∨ s.grantPlaces.journal.takesNow = false := by
  refine grantWaits_exhausts _ ?_
  rw [← grantMark_waits]
  exact dueGrants_le_waits _

/-! ### The page in flight -/

theorem finish_of_not_issued {e : PageEntry} (h : e.isIssued = false) : e.finish = e := by
  cases e with
  | issued first n => simp [PageEntry.isIssued] at h
  | written first n => rfl
  | faulted => rfl

theorem fail_of_not_issued {e : PageEntry} (h : e.isIssued = false) : e.fail = e := by
  cases e with
  | issued first n => simp [PageEntry.isIssued] at h
  | written first n => rfl
  | faulted => rfl

/-- A change of the page in flight leaves the entries before it. -/
theorem map_pageList {f : PageEntry → PageEntry} (hf : ∀ {e}, e.isIssued = false → f e = e) {before : List PageEntry}
    (hb : ∀ e ∈ before, e.isIssued = false) (e : PageEntry) : (before ++ [e]).map f = before ++ [f e] := by
  have hsame : before.map f = before.map id := List.map_congr_left fun x hx => hf (hb x hx)
  rw [List.map_append, hsame, List.map_id, List.map_singleton]

theorem carried_eq {j : Journal} {before : List PageEntry} {first count : Nat}
    (hl : j.pageList = before ++ [.issued first count]) (hb : ∀ e ∈ before, e.isIssued = false) :
    j.carried = count := by
  unfold Journal.carried
  rw [hl, List.findSome?_append, List.findSome?_eq_none_iff.2 fun e he => ?_]
  · rfl
  · cases e with
    | issued first n => simpa [PageEntry.isIssued] using hb _ he
    | written first n => rfl
    | faulted => rfl

/-- A page written: its entry WRITTEN, its records out of the buffer (R159). -/
theorem pageWritten_eq {j : Journal} {before : List PageEntry} {first count : Nat}
    (hl : j.pageList = before ++ [.issued first count]) (hb : ∀ e ∈ before, e.isIssued = false) :
    j.pageWritten = { j with
      pageList := before ++ [.written first count], counter := j.counter + 1, buffer := j.buffer.drop count } := by
  rw [Journal.pageWritten, carried_eq hl hb, hl, map_pageList finish_of_not_issued hb]
  rfl

/-- A page that faulted: its entry FAULTED, and its records stay (R159). -/
theorem pageFaulted_eq {j : Journal} {before : List PageEntry} {first count : Nat}
    (hl : j.pageList = before ++ [.issued first count]) (hb : ∀ e ∈ before, e.isIssued = false) :
    j.pageFaulted = { j with pageList := before ++ [.faulted], counter := j.counter + 1 } := by
  rw [Journal.pageFaulted, hl, map_pageList fail_of_not_issued hb]
  rfl

/-- JOURNAL_FULL is raised where the region is entirely full, and it stays so (R161). -/
theorem judgeFull_eq (s : State) :
    s.judgeFull = if s.journal.pages ≤ s.journal.counter then s.raise .journalFull (some .cport) else s :=
  if_congr decide_eq_true_iff rfl rfl

theorem judgeFull_full (s : State) : s.judgeFull.journal.full = decide (s.journal.pages ≤ s.journal.counter) := by
  unfold State.judgeFull
  split <;> simp [Journal.full]

/-- Settles O55: both ends of a page write with their page list written out, the grants by their equations and by the
count of those due, and the partial-page time. -/
theorem pageWritesEnd : Obligations.PageWritesEnd := by
  refine ⟨fun s page at_ blocks first count o before ha hl hb => ?_,
    fun s => ⟨⟨_, Nat.lt_succ_self _, rfl⟩, grantMark_eq s, rfl, grantWaits_succ s, ?_⟩, fun s e rest hlive hbuf => ?_⟩
  · intro full told u v
    have hu : (s.withJournal s.journal.pageWritten).judgeFull = u := by
      rw [pageWritten_eq hl hb]
      exact judgeFull_eq _
    have hv : (s.withJournal s.journal.pageFaulted).judgeFull = v := by
      rw [pageFaulted_eq hl hb]
      exact judgeFull_eq _
    have hfull : v.journal.full = decide full := by
      rw [← hv, pageFaulted_eq hl hb]
      exact judgeFull_full _
    constructor
    · show execJournalWriteOk s = _
      simp only [execJournalWriteOk, ha, State.pageDone, hu]
    · show execJournalWriteMediaError s = _
      simp only [execJournalWriteMediaError, ha, State.pageFault, hv, hfull, decide_eq_true_eq]
      split <;> rfl
  · refine (grantPlaces_exhausts s).imp_right fun h => ?_
    have := mt (takesNow_iff s.grantPlaces.journal).2 (by simp [h])
    omega
  · show execPartialPageTime s = _
    simp only [execPartialPageTime, hlive, State.pageAged, hbuf, Bool.true_and, decide_eq_true_eq]
    exact (apply_ite Host.Outcome.next _ _ _).symm

end Sys2Proof.Machine
end

section
/-! SUPPORT. The issue of a PROGRAM: the frontier, the floor of a pending split, and the event of a full store (R25,
R28, R29, R31). -/

namespace Sys2Proof.Machine

/-! ### Raising an event on its route -/

/-- The route of a class leads to a target that takes it: CPORT, or a link that is up (R180, R181). -/
def State.routed (s : State) (c : EventClass) (m : Master) : Bool :=
  match m with
  | .node .a => (s.routeOf c).a && s.linkA.up
  | .node .b => (s.routeOf c).b && s.linkB.up
  | .cport => (s.routeOf c).cport

/-- No grant changes where a class is routed. -/
theorem Aside.routed {s t : State} (a : Aside s t) (c : EventClass) (m : Master) : t.routed c m = s.routed c m := by
  have hr : t.routeOf c = s.routeOf c := by simp only [State.routeOf, a.rest.routes]
  obtain ⟨la, hA⟩ := a.slots.links .a
  obtain ⟨lb, hB⟩ := a.slots.links .b
  have hA : t.linkA.up = s.linkA.up := by rw [show t.linkA = _ from hA]; rfl
  have hB : t.linkB.up = s.linkB.up := by rw [show t.linkB = _ from hB]; rfl
  unfold State.routed
  rw [hr, hA, hB]

/-- A class raised on CPORT, or for a link that is up, is pending there (R181). -/
theorem mem_raiseAt_same (s : State) (m : Master) (c : EventClass) (h : ∀ n, m = .node n → (s.link n).up = true) :
    c ∈ (s.raiseAt m c).pendingSet m := by
  unfold State.raiseAt
  split
  · next hc => simpa using hc
  · rcases m with (_ | _) | _
    · have : s.linkA.up = true := h .a rfl
      simp [this, State.pendingSet]
    · have : s.linkB.up = true := h .b rfl
      simp [this, State.pendingSet]
    · simp [State.pendingSet]

/-- Raising a class adds at most that class to a pending set (R181). -/
theorem pendingSet_raiseAt_cases (s : State) (m : Master) (c : EventClass) (k : Master) :
    (s.raiseAt m c).pendingSet k = s.pendingSet k ∨ (s.raiseAt m c).pendingSet k = s.pendingSet k ++ [c] := by
  unfold State.raiseAt
  split
  · exact .inl rfl
  · cases m with
    | node n =>
      cases n <;> dsimp only <;> split
      case a.isTrue =>
        rcases k with (_ | _) | _
        · exact .inr rfl
        · exact .inl rfl
        · exact .inl rfl
      case b.isTrue =>
        rcases k with (_ | _) | _
        · exact .inl rfl
        · exact .inr rfl
        · exact .inl rfl
      all_goals exact .inl rfl
    | cport =>
      rcases k with (_ | _) | _
      · exact .inl rfl
      · exact .inl rfl
      · exact .inr rfl

/-- Raising a class on a target makes no other class pending (R180). -/
theorem mem_raiseAt_of_ne {s : State} {m : Master} {c d : EventClass} {k : Master} (hd : d ≠ c)
    (h : d ∈ (s.raiseAt m c).pendingSet k) : d ∈ s.pendingSet k := by
  rcases pendingSet_raiseAt_cases s m c k with e | e <;> rw [e] at h
  · exact h
  · simpa [hd] using h

/-- A class stays pending, whether or not it is raised on one more target (R180). -/
theorem mem_ite_raiseAt {s : State} {c : EventClass} {m : Master} (p : Prop) [Decidable p] (k : Master)
    (h : c ∈ s.pendingSet m) : c ∈ (if p then s.raiseAt k c else s).pendingSet m := by
  split
  · exact s.mem_raiseAt k c h
  · exact h

/-- A class raised is pending on every target its route leads to (R180, R181). -/
theorem mem_raise_of_routed {s : State} {c : EventClass} (f : Option Master) {m : Master} (h : s.routed c m = true) :
    c ∈ (s.raise c f).pendingSet m := by
  unfold State.raise
  dsimp only
  rcases m with (_ | _) | _
  · obtain ⟨hr, hup⟩ : (s.routeOf c).a = true ∧ s.linkA.up = true := by simpa [State.routed] using h
    refine mem_ite_raiseAt _ _ (mem_ite_raiseAt _ _ ?_)
    rw [if_pos (by simp [hr])]
    exact mem_raiseAt_same s _ c fun n hn => by cases hn; exact hup
  · obtain ⟨hr, hup⟩ : (s.routeOf c).b = true ∧ s.linkB.up = true := by simpa [State.routed] using h
    refine mem_ite_raiseAt _ _ ?_
    rw [if_pos (by simp [hr])]
    refine mem_raiseAt_same _ _ c fun n hn => ?_
    cases hn
    show (State.linkB _).up = true
    split <;> simpa using hup
  · have hr : (s.routeOf c).cport = true := h
    rw [if_pos (by simp [hr])]
    exact mem_raiseAt_same _ _ c nofun

/-! ### Reading one store -/

theorem store_modStore (s : State) (i : Nat) (f : Store → Store) (j : Nat) :
    (s.modStore i f).store j = if i = j then (s.store j).map f else s.store j := by
  simp only [State.store, State.modStore, State.withStoreMap_storeMap, List.getElem?_modify]
  split
  · rfl
  · exact congrFun Option.map_id _

theorem store_modStore_other (s : State) {i j : Nat} (f : Store → Store) (h : j ≠ i) :
    (s.modStore i f).store j = s.store j := by
  rw [store_modStore, if_neg h.symm]

theorem store_modStore_same {s : State} {i : Nat} {st : Store} (h : s.store i = some st) (f : Store → Store) :
    (s.modStore i f).store i = some (f st) := by
  rw [store_modStore, if_pos rfl, h]
  rfl

/-! ### A split that fails -/

/-- A SPLITTING store is ACTIVE again, and no other store changes (R31, R33). -/
theorem store_failSplit {s : State} {p : PendingSplit} (hp : s.storeMap.split = some p) (code : Code) (j : Nat) :
    (s.failSplit code).store j =
      (s.store j).map (fun st => if st.state = .splitting then { st with state := .active } else st) := by
  rw [failSplit_of_pending hp]
  simp [State.store]

theorem split_failSplit (s : State) (code : Code) : (s.failSplit code).storeMap.split = none := by
  unfold State.failSplit
  split <;> simp [*]

/-- The slot of a split that fails ends with the code, and COMPLETION is raised to CPORT (R31, R168). -/
theorem slot_failSplit {s : State} {p : PendingSplit} {h : Held} {w : Work} (hp : s.storeMap.split = some p)
    (hs : s.slot ⟨.cport, p.slot⟩ = some (.running h w)) (code : Code) :
    (s.failSplit code).slot ⟨.cport, p.slot⟩ = some (.finished h ⟨code, []⟩) ∧
      .completion ∈ (s.failSplit code).pendingSet .cport := by
  rw [failSplit_of_pending hp]
  generalize hu : (State.dropWait _ _) = u
  have hus : u.slot ⟨.cport, p.slot⟩ = some (.running h w) := by
    rw [← hu, State.slot_congr (s := s) (by simp) (by simp) (by simp)]
    exact hs
  refine ⟨State.slot_endSlot_running u _ hus, ?_⟩
  unfold State.endSlot
  rw [hus]
  exact mem_raiseAt_same _ _ _ nofun

theorem mem_endSlot_of_ne {s : State} {ref : SlotRef} {r : Result} {d : EventClass} {k : Master}
    (hd : d ≠ .completion) (h : d ∈ (s.endSlot ref r).pendingSet k) : d ∈ s.pendingSet k := by
  have router (v : Slot) : (s.setSlot ref v).pendingSet = s.pendingSet := State.pendingSet_congr (by simp)
  unfold State.endSlot at h
  split at h
  · rw [← router]
    exact mem_raiseAt_of_ne hd h
  · rwa [router] at h
  · exact h

/-- A split that fails raises COMPLETION alone (R31). -/
theorem mem_failSplit_of_ne {s : State} {code : Code} {d : EventClass} {k : Master} (hd : d ≠ .completion)
    (h : d ∈ (s.failSplit code).pendingSet k) : d ∈ s.pendingSet k := by
  unfold State.failSplit at h
  split at h
  · exact h
  · have := mem_endSlot_of_ne hd h
    rwa [State.pendingSet_congr (s := s) (by simp)] at this

/-! ### The judgement of a store after its frontier has moved -/

/-- A pending split fails when the store that moved has fallen below its floor (R31). -/
def State.keepFloor (s : State) (fails : Prop) [Decidable fails] : State :=
  if fails then s.failSplit .tooSmall else s

section
variable (s : State) (fails : Prop) [Decidable fails]

theorem Aside.keepFloor : Aside s (s.keepFloor fails) := by
  unfold State.keepFloor
  split
  · exact Aside.failSplit s _
  · exact Aside.refl s

theorem keepFloor_split : (s.keepFloor fails).storeMap.split = if fails then none else s.storeMap.split := by
  unfold State.keepFloor
  split
  · exact split_failSplit s _
  · rfl

theorem keepFloor_store {i : Nat} {st : Store} (h : s.store i = some st)
    (hf : fails → st.state = .splitting ∧ s.storeMap.split.isSome = true) :
    (s.keepFloor fails).store i = some { st with state := if fails then .active else st.state } := by
  unfold State.keepFloor
  split
  · next hfails =>
    obtain ⟨hsplit, hsome⟩ := hf hfails
    obtain ⟨p, hp⟩ := Option.isSome_iff_exists.1 hsome
    rw [store_failSplit hp, h, Option.map_some, if_pos hsplit]
  · exact h

theorem keepFloor_store_other {j : Nat} (hf : ¬ fails) : (s.keepFloor fails).store j = s.store j := by
  rw [State.keepFloor, if_neg hf]

theorem keepFloor_slot {p : PendingSplit} {h : Held} {w : Work} (hf : fails) (hp : s.storeMap.split = some p)
    (hs : s.slot ⟨.cport, p.slot⟩ = some (.running h w)) :
    (s.keepFloor fails).slot ⟨.cport, p.slot⟩ = some (.finished h ⟨.tooSmall, []⟩) ∧
      .completion ∈ (s.keepFloor fails).pendingSet .cport := by
  rw [State.keepFloor, if_pos hf]
  exact slot_failSplit hp hs _

theorem keepFloor_frame :
    (s.keepFloor fails).media = s.media ∧ (s.keepFloor fails).clock = s.clock ∧ (s.keepFloor fails).et = s.et ∧
      (s.keepFloor fails).engine = s.engine := by
  unfold State.keepFloor
  split <;> simp

theorem mem_keepFloor_of_ne {d : EventClass} {k : Master} (hd : d ≠ .completion)
    (h : d ∈ (s.keepFloor fails).pendingSet k) : d ∈ s.pendingSet k := by
  unfold State.keepFloor at h
  split at h
  · exact mem_failSplit_of_ne hd h
  · exact h

end

/-- A store becomes FULL and raises STORE_FULL on its route (R28, R29). -/
def State.fillStore (s : State) (i : Nat) : State :=
  (s.modStore i (fun x => { x with state := .full })).raise .storeFull none

section
variable (s : State) (i : Nat)

theorem Aside.fillStore : Aside s (s.fillStore i) := Aside.ofFull s s i (Aside.refl s)

theorem fillStore_frame :
    (s.fillStore i).media = s.media ∧ (s.fillStore i).storeMap.split = s.storeMap.split ∧
      (s.fillStore i).clock = s.clock ∧ (s.fillStore i).et = s.et ∧ (s.fillStore i).engine = s.engine := by
  simp [State.fillStore, State.modStore]

theorem fillStore_slot : (s.fillStore i).slot = s.slot :=
  State.slot_congr (by simp [State.fillStore]) (by simp [State.fillStore]) (by simp [State.fillStore])

/-- STORE_FULL is pending where its route leads (R29). -/
theorem mem_fillStore_of_routed {m : Master} (h : s.routed .storeFull m = true) :
    .storeFull ∈ (s.fillStore i).pendingSet m :=
  mem_raise_of_routed none
    (((Aside.modStore s i (f := fun x => { x with state := .full }) fun _ => rfl).routed _ m).trans h)

theorem fillStore_store {i : Nat} {st : Store} (h : s.store i = some st) :
    (s.fillStore i).store i = some { st with state := .full } := by
  rw [← store_modStore_same h fun x => { x with state := .full }]
  simp [State.fillStore, State.store]

theorem fillStore_store_other {i j : Nat} (h : j ≠ i) : (s.fillStore i).store j = s.store j := by
  rw [← store_modStore_other s (fun x => { x with state := .full }) h]
  simp [State.fillStore, State.store]

end

/-- A store is judged after its frontier has moved: its split's floor first, then whether it is FULL (R28, R29, R31). -/
theorem judgeStore_eq {s : State} {i : Nat} {st : Store} (h : s.store i = some st) :
    let u := s.keepFloor (st.state = .splitting ∧ st.limit < st.frontier + 8192 ∧ s.storeMap.split.isSome = true)
    s.judgeStore i = if st.state ≠ .full ∧ st.limit < st.frontier + 2 then u.fillStore i else u := by
  intro u
  have hu : (if st.isSplitting && decide (st.limit < st.frontier + Config.splitFloor) then s.failSplit .tooSmall
      else s) = u := by
    cases hp : s.storeMap.split with
    | none =>
      have : s.failSplit .tooSmall = s := by simp [State.failSplit, hp]
      simp [u, State.keepFloor, this]
    | some p =>
      simp only [u, State.keepFloor, hp, Option.isSome_some, and_true]
      exact if_congr (by rw [Bool.and_eq_true, decide_eq_true_eq, Store.isSplitting, beq_iff_eq]; rfl) rfl rfl
  unfold State.judgeStore
  rw [h]
  dsimp only
  rw [hu]
  exact if_congr (by simp) rfl rfl

/-! ### The issue of a PROGRAM -/

/-- A store after its frontier has moved past a PROGRAM's last block; an APPEND's reservation is used (R25, R28). -/
def Store.advanced (st : Store) (op : MediaOp) (i : Nat) : Store :=
  { st with
    frontier := st.frontier + op.count
    reservation := if op.requester = .append i then 0 else st.reservation }

/-- The state after a PROGRAM has been issued from the frontier, before its store is judged (R25, R28). -/
def State.advance (s : State) (op : MediaOp) (i : Nat) (st : Store) : State :=
  (s.fly { op with first := st.frontier }).modStore i (fun x => x.advanced op i)

theorem advance_store_same {s : State} {op : MediaOp} {i : Nat} {st : Store} (h : s.store i = some st) :
    (s.advance op i st).store i = some (st.advanced op i) :=
  store_modStore_same (s := s.fly _) h _

theorem advance_store_other {s : State} {op : MediaOp} {i j : Nat} {st : Store} (h : j ≠ i) :
    (s.advance op i st).store j = s.store j :=
  store_modStore_other (s.fly _) _ h

theorem Aside.advance (s : State) (op : MediaOp) (i : Nat) (st : Store) : Aside s (s.advance op i st) :=
  (Aside.fly s _).trans (Aside.modStore _ i fun _ => rfl)

theorem issue_program {s : State} {op : MediaOp} {i : Nat} {st : Store} (h : s.store i = some st)
    (hr : op.requester = .append i ∨ op.requester = .trailer i) :
    s.issue op = if st.limit < st.frontier + op.count then s else (s.advance op i st).judgeStore i := by
  unfold State.issue
  rcases hr with hr | hr <;> simp [hr, State.issueProgram, h, State.advance, Store.advanced]

/-- The issue of a PROGRAM that fits, by the blocks it leaves free (R25, R28, R29, R31). -/
theorem issue_program_of_fits {s : State} {op : MediaOp} {i : Nat} {st : Store} (h : s.store i = some st)
    (hr : op.requester = .append i ∨ op.requester = .trailer i) (hfit : st.frontier + op.count ≤ st.limit) :
    let free := st.limit - (st.frontier + op.count)
    let u := (s.advance op i st).keepFloor (st.state = .splitting ∧ free < 8192 ∧ s.storeMap.split.isSome = true)
    s.issue op = if st.state ≠ .full ∧ free < 2 then u.fillStore i else u := by
  intro free u
  have hfree (n : Nat) : st.limit < st.frontier + op.count + n ↔ free < n := by omega
  rw [issue_program h hr, if_neg (by omega), judgeStore_eq (advance_store_same h)]
  simp only [Store.advanced, hfree]
  rfl

/-- Settles O28: `u` is the state after the frontier's move and the judgement of the floor; a store that becomes FULL
adds its state and its event. -/
theorem programIssueMovesTheFrontier : Obligations.ProgramIssueMovesTheFrontier := by
  intro s op i st h hr t free fails
  refine ⟨fun hover => (issue_program h hr).trans (if_pos hover), fun hfit => ?_⟩
  obtain ⟨u, hu⟩ : ∃ u, u = (s.advance op i st).keepFloor fails := ⟨_, rfl⟩
  have ht : t = if st.state ≠ .full ∧ free < 2 then u.fillStore i else u := by
    rw [hu]
    exact issue_program_of_fits h hr hfit
  have hstore : u.store i = some { st.advanced op i with state := if fails then .active else st.state } := by
    rw [hu]
    exact keepFloor_store _ fails (advance_store_same h) fun ⟨hsplitting, _, hsome⟩ => ⟨hsplitting, hsome⟩
  have hother (hns : st.state ≠ .splitting) (j : Nat) (hj : j ≠ i) : u.store j = s.store j := by
    rw [hu, keepFloor_store_other _ fails fun hf => hns hf.1, advance_store_other hj]
  have hsplit : u.storeMap.split = if fails then none else s.storeMap.split := by
    rw [hu]
    exact keepFloor_split _ fails
  have hslot (hf : fails) (p : PendingSplit) (h : Held) (w : Work) (hp : s.storeMap.split = some p)
      (hs : s.slot ⟨.cport, p.slot⟩ = some (.running h w)) :
      u.slot ⟨.cport, p.slot⟩ = some (.finished h ⟨.tooSmall, []⟩) ∧ .completion ∈ u.pendingSet .cport := by
    rw [hu]
    exact keepFloor_slot _ fails hf hp hs
  have hevents (m : Master) (hm : .storeFull ∈ u.pendingSet m) : .storeFull ∈ s.pendingSet m := by
    rw [hu] at hm
    exact mem_keepFloor_of_ne (s.advance op i st) fails nofun hm
  have haside : Aside s u := by
    rw [hu]
    exact (Aside.advance s op i st).trans (Aside.keepFloor _ fails)
  obtain ⟨hmedia, hclock, het, hengine⟩ := keepFloor_frame (s.advance op i st) fails
  rw [← hu] at hmedia hclock het hengine
  clear_value t
  clear hu
  by_cases hfull : st.state ≠ .full ∧ free < 2
  · rw [if_pos hfull] at ht
    subst ht
    obtain ⟨fmedia, fsplit, fclock, fet, fengine⟩ := fillStore_frame u i
    refine ⟨by rw [fmedia, hmedia]; rfl, ⟨_, fillStore_store u hstore, rfl, rfl, rfl, rfl, rfl, ?_⟩,
      fun hns j hj => ?_, fsplit.trans hsplit, fun hf p h w hp hs => ?_, fun _ _ m hm => ?_, fun hno => ?_,
      fclock.trans hclock, fet.trans het, fengine.trans hengine⟩
    · exact (if_pos hfull.2).symm
    · rw [fillStore_store_other u hj, hother hns j hj]
    · obtain ⟨hfin, hcomp⟩ := hslot hf p h w hp hs
      exact ⟨by rw [fillStore_slot]; exact hfin, (Aside.fillStore u i).rest.events _ _ hcomp⟩
    · exact mem_fillStore_of_routed u i ((haside.routed _ m).trans hm)
    · exact (hno.elim hfull.1 (Nat.not_le.2 hfull.2)).elim
  · rw [if_neg hfull] at ht
    subst ht
    refine ⟨by rw [hmedia]; rfl, ⟨_, hstore, rfl, rfl, rfl, rfl, rfl, ?_⟩, hother, hsplit, hslot,
      fun hns hlt => absurd ⟨hns, hlt⟩ hfull, fun _ => hevents, hclock, het, hengine⟩
    by_cases hlt : free < 2
    · have hs : st.state = .full := by_contra fun hs => hfull ⟨hs, hlt⟩
      have hnf : ¬ fails := fun hf => nomatch hs.symm.trans hf.1
      rw [if_pos hlt, if_neg hnf, hs]
    · rw [if_neg hlt]

end Sys2Proof.Machine
end

section
/-! SUPPORT. The part at its reset values: what RESET_N and a power loss leave, and the blank part from which every run
begins (00_scope.md section 4, R185). -/

namespace Sys2Proof.Machine

/-! ### RESET_N and power loss -/

theorem link_volatileReset (s : State) (p : Phase) (n : Node) : (s.volatileReset p).link n = LinkState.reset := by
  cases n <;> rfl

theorem pendingSet_volatileReset (s : State) (p : Phase) (m : Master) : (s.volatileReset p).pendingSet m = [] := by
  rcases m with (_ | _) | _ <;> rfl

/-- The receipt area of a link without receipt reads as zeros (R165). -/
theorem receiptArea_of_none {l : LinkState} (h : l.receipt = none) : l.receiptArea = List.replicate 192 0 := by
  simp [LinkState.receiptArea, h, padTo, Config.receiptBytes]

/-- Settles O3: both commands end in `volatileReset`, which copies table memory and nothing else. -/
theorem resetAndPowerLossKeepTableMemory : Obligations.ResetAndPowerLossKeepTableMemory := by
  intro i s p h
  have e : exec i s = .next (s.volatileReset p) := by
    rcases h with ⟨rfl, hl, rfl⟩ | ⟨rfl, rfl⟩
    · exact if_pos hl
    · rfl
  refine ⟨_, e, rfl, rfl, rfl, rfl, rfl, rfl, rfl, rfl, rfl, rfl, rfl, rfl, pendingSet_volatileReset s p, rfl,
    fun n => ?_, rfl, rfl, rfl, rfl, rfl⟩
  rw [link_volatileReset]
  exact ⟨rfl, rfl, rfl, rfl, receiptArea_of_none rfl, rfl, rfl, rfl, rfl⟩

/-! ### The blank part -/

theorem link_reset (n : Node) : State.reset.link n = LinkState.reset := by
  cases n <;> rfl

theorem pendingSet_reset (m : Master) : State.reset.pendingSet m = [] := by
  rcases m with (_ | _) | _ <;> rfl

/-- The routes of R180. -/
theorem routeOf_reset (k : EventClass) : State.reset.routeOf k = match k with
    | .completion | .fetchFault => ⟨false, false, false⟩
    | .storeFull | .splitDone | .clockState | .journalLow => ⟨true, true, true⟩
    | _ => ⟨false, false, true⟩ := by
  cases k <;> rfl

theorem whole_linkReset : LinkState.reset.whole := ⟨List.length_replicate, List.length_replicate⟩

theorem whole_reset : State.reset.Whole where
  linkA := whole_linkReset
  linkB := whole_linkReset
  cport := rfl
  buffers := rfl
  units := rfl
  classes := rfl
  routes := rfl

theorem settings_sound_reset : Settings.reset.Sound := by
  constructor <;> decide

theorem clock_sound_reset : (Clock.reset 0).Sound := by
  constructor <;> decide

theorem journal_sound_reset : State.reset.JournalSound := ⟨Nat.zero_le _, trivial⟩

theorem holds_sound_reset (now : Nat) : State.reset.holds.Sound now where
  length := Nat.zero_le _
  matters := .nil
  named := nofun
  order := .nil
  past := nofun

theorem et_sound_reset : State.reset.et.Sound where
  next := le_rfl
  bound := by decide
  order := .nil
  assigned r h := nomatch h
  count := by decide

theorem keys_sound_reset : State.reset.et.KeysSound where
  distinct := .nil
  pairs _ _ := ⟨nofun, fun ⟨_, h, _⟩ => nomatch h⟩

theorem queue_sound_reset : State.reset.QueueSound where
  distinct := .nil
  disposing := nofun
  complete := nofun

theorem storeMap_sound_reset : State.reset.storeMap.Sound where
  count := by decide
  ranges := nofun
  cover h := absurd rfl h
  split := nofun

theorem open_sound_reset : State.reset.OpenSound where
  writes i st n h _ := by simp [State.store, State.reset] at h
  holds r h := nomatch h

/-- Settles O8: the values by the definition of the blank part; its tables are empty, so each invariant over their
entries holds. -/
theorem resetStateIsTheInvariantsStart : Obligations.ResetStateIsTheInvariantsStart :=
  ⟨⟨rfl, rfl, rfl, rfl, rfl, rfl, link_reset, rfl, rfl, rfl, rfl, rfl, rfl, pendingSet_reset, rfl, rfl, routeOf_reset,
      rfl, rfl, rfl, rfl, rfl⟩,
    whole_reset, settings_sound_reset, clock_sound_reset, by decide, journal_sound_reset, holds_sound_reset _,
    et_sound_reset, keys_sound_reset, queue_sound_reset, storeMap_sound_reset, open_sound_reset⟩

end Sys2Proof.Machine
end

section
/-! SUPPORT. The checks that APPEND, CLOSE and ABANDON share (R42), the requests for a journal place (R155), and the ways
an extent comes to be voided (R38, R47, R52 to R54). -/

namespace Sys2Proof.Machine

/-! ### The record a command names -/

theorem named_notFound {s : State} {n : Nat} (h : n = 0 ∨ s.et.next ≤ n) : s.named n = .error .notFound :=
  if_pos (by simpa using h)

theorem named_evicted {s : State} {n : Nat} (h0 : n ≠ 0) (h : n < s.et.next) (he : s.extent n = none) :
    s.named n = .error .evicted := by
  unfold State.named
  rw [if_neg (by simp; omega), he]

theorem named_ok {s : State} {n : Nat} {r : Extent} (h0 : n ≠ 0) (h : n < s.et.next) (he : s.extent n = some r) :
    s.named n = .ok r := by
  unfold State.named
  rw [if_neg (by simp; omega), he]

/-! ### Checks 2 to 7 of R42 -/

theorem notOpener_iff (m : Master) (r : Extent) : notOpener m r = true ↔ ∃ n, m = .node n ∧ n ≠ r.opener := by
  cases m <;> simp [notOpener]

@[simp] theorem State.writable_takeMark (s : State) (m : Master) : (s.takeMark m).writable = s.writable := by
  funext k n
  simp [State.writable, State.named, State.extent_takeMark]

theorem writable_of_named_error {s : State} {n : Nat} {code : Code} (h : s.named n = .error code) (m : Master) :
    s.writable m n = .error code := by
  rw [State.writable, h]

theorem writable_of_named_ok {s : State} {n : Nat} {r : Extent} (h : s.named n = .ok r) (m : Master) :
    s.writable m n =
      if notOpener m r = true then .error .notOpener
      else if r.state = .voided then .error .extentVoid
      else if r.state ≠ .opened then .error .notOpen
      else if r.inFlight ≠ some .nothing then .error .extentBusy
      else .ok r := by
  rw [State.writable, h]

/-- Whichever of the three commands it is, the code of the shared checks is the code of its refusal. -/
theorem write_command_refused {s : State} {h : HandOver} {c : Capsule} {q : Req} {frags : List Fragment} {ext : Nat}
    {code : Code} (R : Reaches s h c q frags)
    (hq : q = .close ext ∨ q = .abandon ext ∨ ∃ blocks, q = .append ext blocks ∧ 1 ≤ blocks ∧ blocks ≤ 32)
    (hw : s.writable c.master ext = .error code) :
    exec (q.kind.command h) s = .next (s.answered c .refused code none []) := by
  rw [← State.writable_takeMark s c.master] at hw
  rw [← State.conclude_refuse]
  rcases hq with rfl | rfl | ⟨blocks, rfl, h1, h32⟩
  · refine congrArg _ ((State.handOver_of_reaches R judgeClose).trans (congrArg _ ?_))
    simp only [judgeClose, Ctx.of, hw]
  · refine congrArg _ ((State.handOver_of_reaches R judgeAbandon).trans (congrArg _ ?_))
    simp only [judgeAbandon, Ctx.of, hw]
  · refine congrArg _ ((State.handOver_of_reaches R judgeAppend).trans (congrArg _ ?_))
    dsimp only [judgeAppend, Ctx.of]
    rw [show Config.maxRun = 32 from rfl, if_neg (by simp; omega), hw]

/-- Settles O32: each check by the first condition of `State.writable` that holds. -/
theorem writeCommandsShareTheirChecks : Obligations.WriteCommandsShareTheirChecks := by
  intro s h c q frags ext R hq no
  have refused {code : Code} (hw : s.writable c.master ext = .error code) : no code := write_command_refused R hq hw
  refine ⟨fun hn => refused (writable_of_named_error (named_notFound hn) _),
    fun h0 hn he => refused (writable_of_named_error (named_evicted h0 hn he) _), fun r h0 hn he => ?_⟩
  have hw := writable_of_named_ok (named_ok h0 hn he) c.master
  refine ⟨fun hne => refused ?_, fun ho => ?_⟩
  · rw [hw, if_pos ((notOpener_iff c.master r).2 hne)]
  have hopener : ¬ notOpener c.master r = true := by
    simpa [notOpener_iff] using ho
  rw [if_neg hopener] at hw
  refine ⟨fun hv => refused ?_, fun hv hs => refused ?_, fun hs hi => refused ?_⟩
  · rw [hw, if_pos hv]
  · rw [hw, if_neg hv, if_pos hs]
  · rw [hw, if_neg (by simp [hs]), if_neg (by simp [hs]), if_pos hi]

/-! ### ABANDON -/

/-- ABANDON by the room of the journal: the extent passes the shared checks (R53). -/
theorem exec_abandon {s : State} {h : HandOver} {c : Capsule} {r : Extent} (R : Reaches s h c (.abandon r.number) [])
    (hw : s.writable c.master r.number = .ok r) :
    exec (.abandon h) s =
      if 56 ≤ s.journal.buffer.length then .next (s.answered c .refused .journalBacklog none [])
      else if s.journal.pages ≤ s.journal.counter then .next (s.answered c .refused .journalFull none [])
      else .next ((((s.takeMark c.master).voidExtent r (.master c.master) .abandoned).judgePage).finish c s.cport.role
        .ok (le 2 r.count)) := by
  have e : exec (.abandon h) s = .next ((s.takeMark c.master).conclude c
      (judgeAbandon (Ctx.of s c []) (.abandon r.number) (s.takeMark c.master))) :=
    congrArg _ (State.handOver_of_reaches R judgeAbandon)
  have hbacklog : s.journal.backlog = true ↔ 56 ≤ s.journal.buffer.length := decide_eq_true_iff
  have hfull : s.journal.full = true ↔ s.journal.pages ≤ s.journal.counter := decide_eq_true_iff
  rw [e]
  dsimp only [judgeAbandon, Ctx.of]
  rw [State.writable_takeMark, hw]
  simp only [State.takeMark_frame, hbacklog, hfull, Ctx.origin]
  split
  · rw [State.conclude_refuse]
  · split
    · rw [State.conclude_refuse]
    · rw [State.conclude_done]

/-! ### Requests for a journal place (R155) -/

theorem request_eq (s : State) (p : PlaceRequest) :
    s.request p =
      if s.journal.waits = [] ∧ s.journal.mark = none ∧
          (s.journal.buffer.length < 64 ∨ s.journal.pages ≤ s.journal.counter) then (s.settle p).judgePage
      else { s with journal := { s.journal with waits := s.journal.waits ++ [p] } } :=
  if_congr (grants_iff s.journal) rfl rfl

theorem grantable_iff (j : Journal) (p : PlaceRequest) :
    j.grantable p = true ↔
      j.waits.head? = some p ∧ j.mark = none ∧ (j.buffer.length < 64 ∨ j.pages ≤ j.counter) := by
  simp [Journal.grantable, takesNow_iff, and_assoc, and_left_comm]

theorem grantPlace_of_grantable {s : State} {p : PlaceRequest} (h : s.journal.grantable p = true) :
    s.grantPlace p =
      ((s.withJournal { s.journal with waits := s.journal.waits.erase p }).settle p).judgePage :=
  if_pos h

/-! ### What a granted place voids -/

/-- The end of a failed program (R47, R52, R59). -/
theorem settle_mediaFault {s : State} {i : Nat} {r : Extent} (h : s.openRecord i = some r) :
    s.settle (.mediaFault i) = (s.voidExtent r .device .mediaFault).endWrite r
      ⟨.mediaFault, if r.state = ExtState.opened then le 2 r.count ++ [7] else [7]⟩ := by
  have hcode : voidedCode = [7] := rfl
  simp only [State.settle, State.settleMediaFault, h, hcode, beq_iff_eq]

theorem settle_openTimeout {s : State} {i : Nat} {r : Extent} (h : s.openRecord i = some r) :
    s.settle (.openTimeout i) = (s.voidExtent r .device .timeout).raise .openTimeout (some (.node r.opener)) := by
  simp only [State.settle, State.settleOpenTimeout, h]

theorem unit_of_get {s : State} {i : Nat} {u : WriteUnit} (h : s.write[i]? = some u) : s.unit i = u := by
  rw [State.unit, h]
  rfl

/-- The judgement of a RUNNING timer whose extent is OPEN with nothing in flight (R38, R54). -/
theorem judgeTimer_of_running {s : State} {i since : Nat} {r : Extent} {area : Staging} (hr : s.openRecord i = some r)
    (ho : r.state = .opened) (hi : r.inFlight = some .nothing) (hl : r.lastActivity = some since)
    (hu : s.write[i]? = some ⟨area, .running⟩) :
    s.judgeTimer i = if since + s.settings.openTimeout ≤ s.clock.tick then
      ({ s with write := s.write.set i ⟨area, .due⟩ }).request (.openTimeout i) else s := by
  have hreached : s.timeoutReached i = decide (since + s.settings.openTimeout ≤ s.clock.tick) := by
    simp [State.timeoutReached, hr, Extent.quietOpen, ho, hi, hl]
  unfold State.judgeTimer
  rw [unit_of_get hu, hreached]
  exact if_congr (by simp) rfl rfl

/-- Settles O37: ABANDON by its own checks, then the request, the grant and what they void, each by its equation. -/
theorem extentsAreVoided : Obligations.ExtentsAreVoided := by
  refine ⟨fun s h c ext r R h1 h2 he ho hs hi => ?_, request_eq, grantable_iff,
    fun s i r hr => ⟨settle_mediaFault hr, settle_openTimeout hr,
      fun since area ho hi hl hu => judgeTimer_of_running hr ho hi hl hu⟩,
    fun s i => ⟨rfl, fun hg => congrArg _ (grantPlace_of_grantable hg),
      fun hg => congrArg _ (grantPlace_of_grantable hg)⟩⟩
  obtain rfl := State.extent_number he
  refine exec_abandon R ?_
  have hopener : ¬ notOpener c.master r = true := by
    simpa [notOpener_iff] using ho
  rw [writable_of_named_ok (named_ok (by omega) h2 he), if_neg hopener, if_neg (by simp [hs]), if_neg (by simp [hs]),
    if_neg (by simp [hi])]

end Sys2Proof.Machine
end

section
/-! SUPPORT. How an APPEND ends: its fetch, whole or failed (R44, R45, R172), its program (R46, R47), and the reset of
its link while it is being fetched (R44, R56). -/

namespace Sys2Proof.Machine

/-! ### The end of a fetch -/

theorem endFetch_changeAt (n tick : Nat) :
    Extent.changeAt n (Extent.endFetch tick) = fun x =>
      if x.number = n ∧ x.state = .opened ∧ x.inFlight = some .append then
        { x with inFlight := some .nothing, lastActivity := some tick }
      else x := by
  funext x
  by_cases hn : x.number = n
  · simp [Extent.changeAt, Extent.endFetch, hn]
  · simp [Extent.changeAt, hn]

/-- A failed fetch changes the extent, its store's reservation and its store's unit (R44). -/
theorem failFetch_eq {s : State} {n : Nat} {r : Extent} (h : s.extent n = some r) :
    s.failFetch n = { s with
      storeMap := { s.storeMap with
        stores := s.storeMap.stores.modify r.store (fun x => { x with reservation := 0 }) }
      et := s.et.mod n (Extent.endFetch s.clock.tick)
      write := s.write.set r.store ⟨.empty, .running⟩ } := by
  rw [State.failFetch, h]
  rfl

theorem slot_failFetch (s : State) (n : Nat) : (s.failFetch n).slot = s.slot :=
  State.slot_congr (by simp) (by simp) (by simp)

theorem countOf_eq {s : State} {n : Nat} {r : Extent} (h : s.extent n = some r) : s.countOf n = r.count := by
  simp [State.countOf, h]

/-- FETCH_FAULT goes to the link of a RUNNING slot (R172). -/
theorem raiseFault_of_running {s : State} {ref : SlotRef} {h : Held} {w : Work}
    (hs : s.slot ref = some (.running h w)) :
    s.raiseFault ref = s.raiseAt ref.master .fetchFault := by
  rw [State.raiseFault, hs]

/-- The end of a failed fetch in its slot (R44). -/
theorem fetchFault_eq {s : State} {ref : SlotRef} {h : Held} {w : Work} {n : Nat} {r : Extent}
    (hs : s.slot ref = some (.running h w)) (he : s.extent n = some r) :
    s.fetchFault ref n =
      ((s.failFetch n).raiseAt ref.master .fetchFault).endSlot ref ⟨.nodeMemoryFault, le 2 r.count⟩ := by
  rw [State.fetchFault, raiseFault_of_running (by rw [slot_failFetch]; exact hs), countOf_eq he]

/-- A fetch that is complete, on a node link (R45). -/
theorem fetched_eq {s : State} {n : Node} {i : Nat} {h : Held} {w : AppendWork} {r : Extent} {st : Store}
    (he : s.extent w.ext = some r) (hst : s.store r.store = some st) (data : List Byte) :
    s.fetched ⟨.node n, i⟩ h w data =
      (({ s with write := s.write.set r.store ⟨.held data, .idle⟩ }).setSlot ⟨.node n, i⟩
        (.running h (.append { w with dma := none }))).place
          ⟨.append r.store, some (.node r.opener), st.frontier, w.blocks⟩ := by
  rw [State.fetched, he]
  dsimp only
  rw [hst]
  cases n <;> rfl

/-- Settles O34: the three commands find the slot's APPEND with its transfer begun. -/
theorem fetchesEnd : Obligations.FetchesEnd := by
  intro s n i began h w r st hs hd he hst
  refine ⟨fun data hlen => ?_, ?_⟩
  · have hsame : sameLengths w.fragments data = true := by simp [sameLengths, hlen]
    show execFetchComplete n i data s = _
    simp only [execFetchComplete, hs, hd, hsame, Option.isSome_some, Bool.and_true, if_true, fetched_eq he hst]
  intro u failed
  have hfailed : s.fetchFault ⟨.node n, i⟩ w.ext = failed := by
    rw [fetchFault_eq hs he, failFetch_eq he]
    simp only [ExtentTable.mod, endFetch_changeAt, failed, u]
  refine ⟨?_, fun sent => ?_⟩
  · show execFetchFailed n i s = _
    simp only [execFetchFailed, hs, hd, Option.isSome_some, if_true, hfailed]
  · have hlate : s.unanswered w.dma sent = true ↔ began ≤ sent ∧ sent + 2 ≤ s.clock.tick := by
      rw [hd, State.unanswered, Bool.and_eq_true, decide_eq_true_eq, decide_eq_true_eq]
      exact Iff.rfl
    show execDmaReadTimeout n i sent s = _
    simp only [execDmaReadTimeout, hs, hlate, hfailed]
    split <;> rfl

/-! ### The end of a program -/

theorem appended_changeAt (n blocks tick : Nat) (data : List Byte) :
    Extent.changeAt n (Extent.appended blocks tick data) = fun x =>
      if x.number = n ∧ x.state = .opened ∧ x.inFlight = some .append then
        { x with
          count := x.count + blocks, running := x.running.map (crcAbsorb · data)
          lastActivity := some tick, inFlight := some .nothing }
      else x := by
  funext x
  by_cases hn : x.number = n
  · simp [Extent.changeAt, Extent.appended, hn]
  · simp [Extent.changeAt, hn]

/-- An APPEND's program with OK absorbs the bytes of the HELD area (R46). -/
theorem appendDone_eq {s : State} {i : Nat} {r : Extent} {data : List Byte} {timer : Timer}
    (hr : s.openRecord i = some r) (hu : s.write[i]? = some ⟨.held data, timer⟩) (blocks : Nat) :
    s.appendDone i blocks = ({ s with
      et := s.et.mod r.number (Extent.appended blocks s.clock.tick data)
      write := s.write.set i ⟨.empty, .running⟩ }).endWrite r ⟨.ok, le 2 (r.count + blocks)⟩ := by
  rw [State.appendDone, hr]
  dsimp only
  rw [unit_of_get hu]
  rfl

/-- Settles O35: both rows answer the APPEND program in flight. -/
theorem appendProgramsEnd : Obligations.AppendProgramsEnd := by
  intro s i first blocks o ha
  refine ⟨fun r data timer hr hu => ?_, ?_⟩
  · show execAppendProgramOk s = _
    simp only [execAppendProgramOk, ha, appendDone_eq hr hu, ExtentTable.mod, appended_changeAt]
  · show execAppendProgramMediaError s = _
    simp only [execAppendProgramMediaError, ha]

/-! ### A link reset during a fetch -/

/-- The extent for which a slot's APPEND is being fetched. -/
def Slot.fetching : Slot → Option Nat
  | .running _ (.append w) => if w.dma.isSome then some w.ext else none
  | _ => none

theorem Slot.fetching_iff (v : Slot) (n : Nat) :
    v.fetching = some n ↔ ∃ h w, v = .running h (.append w) ∧ w.dma.isSome = true ∧ w.ext = n := by
  refine ⟨fun hv => ?_, fun ⟨h, w, hv, hd, hn⟩ => by simp [hv, Slot.fetching, hd, hn]⟩
  unfold Slot.fetching at hv
  split at hv
  · next h w =>
    split at hv
    · exact ⟨h, w, rfl, ‹_›, Option.some.inj hv⟩
    · cases hv
  · cases hv

/-- The extent that the slot of a reference fetches for. -/
def State.fetching (s : State) (ref : SlotRef) : Option Nat := (s.slot ref).bind Slot.fetching

theorem fetching_iff (s : State) (ref : SlotRef) (n : Nat) :
    s.fetching ref = some n ↔ ∃ h w, s.slot ref = some (.running h (.append w)) ∧ w.dma.isSome = true ∧ w.ext = n := by
  simp only [State.fetching, Option.bind_eq_some_iff, Slot.fetching_iff]
  constructor
  · rintro ⟨_, hs, h, w, rfl, hd, hn⟩
    exact ⟨h, w, hs, hd, hn⟩
  · rintro ⟨h, w, hs, hd, hn⟩
    exact ⟨_, hs, h, w, rfl, hd, hn⟩

theorem fetching_eq_none {s : State} {ref : SlotRef} (hs : ∀ h w, s.slot ref ≠ some (.running h (.append w))) :
    s.fetching ref = none :=
  Option.eq_none_iff_forall_ne_some.2 fun n hn => by
    obtain ⟨h, w, hw, _⟩ := (fetching_iff s ref n).1 hn
    exact hs h w hw

/-- The failure of the fetch that a slot runs, if it runs one. -/
def State.failFetching (s : State) (ref : SlotRef) : State :=
  match s.fetching ref with
  | some n => s.failFetch n
  | none => s

theorem failFetching_of_fetching {s : State} {ref : SlotRef} {n : Nat} (h : s.fetching ref = some n) :
    s.failFetching ref = s.failFetch n := by
  rw [State.failFetching, h]

theorem failFetching_of_not_fetching {s : State} {ref : SlotRef} (h : s.fetching ref = none) :
    s.failFetching ref = s := by
  rw [State.failFetching, h]

/-- A slot that is replaced, on a state with the same slots, by one in which nothing is being fetched. -/
theorem fetching_setSlot {s u : State} (hu : u.slot = s.slot) (ref : SlotRef) {v : Slot} (hv : v.fetching = none)
    (r : SlotRef) : (u.setSlot ref v).fetching r = if r = ref then none else s.fetching r := by
  simp only [State.fetching, State.slot_setSlot, hu]
  split
  · cases s.slot r <;> simp [hv]
  · rfl

/-- What the reset of a slot does to the fetches of all slots, and to extents, stores and units: its own fetch fails
(R44, R56, R168). -/
structure FetchReset (s : State) (ref : SlotRef) (t : State) : Prop where
  fetching : ∀ r, t.fetching r = if r = ref then none else s.fetching r
  et : t.et = (s.failFetching ref).et
  storeMap : t.storeMap = (s.failFetching ref).storeMap
  write : t.write = (s.failFetching ref).write

theorem FetchReset.refl {s : State} {ref : SlotRef} (h : s.fetching ref = none) : FetchReset s ref s := by
  have e := failFetching_of_not_fetching h
  refine ⟨fun r => ?_, by rw [e], by rw [e], by rw [e]⟩
  split
  · next hr => rw [hr, h]
  · rfl

/-- A slot in which nothing is being fetched is replaced by another such slot. -/
theorem FetchReset.setSlot {s u : State} {ref : SlotRef} {v : Slot} (h : s.fetching ref = none) (hv : v.fetching = none)
    (hu : u.slot = s.slot) (he : u.et = s.et) (hm : u.storeMap = s.storeMap) (hw : u.write = s.write) :
    FetchReset s ref (u.setSlot ref v) := by
  have e := failFetching_of_not_fetching h
  exact ⟨fetching_setSlot hu ref hv, by simp [e, he], by simp [e, hm], by simp [e, hw]⟩

theorem slot_dropReader (s : State) (n : Nat) : (s.dropReader n).slot = s.slot :=
  State.slot_congr (by simp) (by simp) (by simp)

theorem slot_withdrawRead (s : State) (ref : SlotRef) : (s.withdrawRead ref).slot = s.slot :=
  State.slot_congr (by simp) (by simp) (by simp)

/-- The reset of a slot, by the operation it holds. -/
theorem resetSlot_fetchReset (s : State) (ref : SlotRef) : FetchReset s ref (s.resetSlot ref) := by
  unfold State.resetSlot
  split
  case h_1 hs =>
    have hf : s.fetching ref = none := fetching_eq_none (by simp [hs])
    split
    · exact .setSlot hf rfl (by rw [slot_dropReader, slot_withdrawRead]) (by simp) (by simp) (by simp)
    · split
      · exact .setSlot hf rfl (slot_dropReader s _) (by simp) (by simp) (by simp)
      · exact .setSlot hf rfl rfl rfl rfl rfl
  case h_3 h w hs =>
    split
    · next hd =>
      have e := failFetching_of_fetching ((fetching_iff s ref w.ext).2 ⟨h, w, hs, hd, rfl⟩)
      exact ⟨fetching_setSlot (slot_failFetch s _) ref rfl, by simp [e], by simp [e], by simp [e]⟩
    · next hd =>
      exact .setSlot (by simp [State.fetching, hs, Slot.fetching, hd]) rfl rfl rfl rfl rfl
  case h_2 hs | h_5 hs => exact .setSlot (fetching_eq_none (by simp [hs])) rfl rfl rfl rfl rfl
  case h_4 _ _ _ _ hother hs =>
    refine .setSlot (fetching_eq_none fun h w hw => ?_) rfl rfl rfl rfl rfl
    cases hs.symm.trans hw
    exact hother w rfl
  case h_6 _ _ _ _ hrun _ => exact .refl (fetching_eq_none fun h w => hrun h (.append w))

/-! ### What failed fetches leave -/

theorem extent_failFetch (s : State) (n k : Nat) :
    (s.failFetch n).extent k = (s.extent k).map (fun r => if k = n then r.endFetch s.clock.tick else r) := by
  cases he : s.extent n with
  | none =>
    have e : s.failFetch n = s := by rw [State.failFetch, he]
    rw [e]
    by_cases hk : k = n
    · rw [hk, he]
      rfl
    · simp [hk]
  | some r =>
    rw [failFetch_eq he, ← State.extent_modExtent s n (touch_endFetch s.clock.tick).number]
    rfl

/-- A failed fetch may set a store's reservation to 0 (R44). -/
theorem store_failFetch (s : State) (n j : Nat) :
    (s.failFetch n).store j = s.store j ∨
      (s.failFetch n).store j = (s.store j).map (fun x => { x with reservation := 0 }) := by
  cases he : s.extent n with
  | none => exact .inl (by rw [State.failFetch, he])
  | some r =>
    have e : (s.failFetch n).store j = (s.modStore r.store (fun x => { x with reservation := 0 })).store j := by
      rw [failFetch_eq he]
      rfl
    rw [e, store_modStore]
    split
    · exact .inr rfl
    · exact .inl rfl

/-- A failed fetch may make a store's area EMPTY and its timer RUNNING (R44). -/
theorem unit_failFetch (s : State) (n : Nat) {j : Nat} (h : j < s.write.length) :
    (s.failFetch n).write[j]? = s.write[j]? ∨ (s.failFetch n).write[j]? = some ⟨.empty, .running⟩ := by
  cases he : s.extent n with
  | none => exact .inl (by rw [State.failFetch, he])
  | some r =>
    rw [failFetch_eq he, List.getElem?_set]
    split
    · next hj => exact .inr (if_pos (hj ▸ h))
    · exact .inl rfl

theorem units_failFetch (s : State) (n : Nat) : (s.failFetch n).write.length = s.write.length := by
  cases he : s.extent n with
  | none => rw [State.failFetch, he]
  | some r =>
    rw [failFetch_eq he]
    exact List.length_set

theorem endFetch_endFetch (tick : Nat) (r : Extent) : (r.endFetch tick).endFetch tick = r.endFetch tick := by
  by_cases h : (r.state == .opened && r.inFlight == some .append) = true
  · simp [Extent.endFetch, h]
  · simp [Extent.endFetch, h]

/-- The extent `k` of record `r` is being fetched, or its fetch has failed already; its store and unit are there. -/
structure FetchOpen (k : Nat) (r : Extent) (tick : Nat) (u : State) : Prop where
  extent : ∃ x, u.extent k = some x ∧ x.store = r.store ∧ x.endFetch tick = r.endFetch tick
  store : (u.store r.store).isSome = true
  unit : r.store < u.write.length
  clock : u.clock.tick = tick

/-- The fetch of the extent `k` of record `r` has failed (R44). -/
structure FetchFailed (k : Nat) (r : Extent) (tick : Nat) (u : State) : Prop where
  extent : u.extent k = some (r.endFetch tick)
  reservation : (u.store r.store).map (·.reservation) = some 0
  unit : u.write[r.store]? = some ⟨.empty, .running⟩
  clock : u.clock.tick = tick

section
variable {k tick : Nat} {r : Extent} {u v : State}

theorem FetchOpen.congr (a : FetchOpen k r tick u) (he : v.et = u.et) (hm : v.storeMap = u.storeMap)
    (hw : v.write = u.write) (hc : v.clock = u.clock) : FetchOpen k r tick v where
  extent := by rw [State.extent_congr (s := u) (by rw [he])]; exact a.extent
  store := by rw [State.store, hm]; exact a.store
  unit := by rw [hw]; exact a.unit
  clock := by rw [hc]; exact a.clock

theorem FetchFailed.congr (a : FetchFailed k r tick u) (he : v.et = u.et) (hm : v.storeMap = u.storeMap)
    (hw : v.write = u.write) (hc : v.clock = u.clock) : FetchFailed k r tick v where
  extent := by rw [State.extent_congr (s := u) (by rw [he])]; exact a.extent
  reservation := by rw [State.store, hm]; exact a.reservation
  unit := by rw [hw]; exact a.unit
  clock := by rw [hc]; exact a.clock

/-- The failure of any fetch leaves the extent being fetched, or fails it too. -/
theorem FetchOpen.failFetch (a : FetchOpen k r tick u) (n : Nat) : FetchOpen k r tick (u.failFetch n) := by
  obtain ⟨x, hx, hs, hf⟩ := a.extent
  refine ⟨⟨_, by rw [extent_failFetch, hx, a.clock]; rfl, ?_, ?_⟩, ?_, ?_, by simpa using a.clock⟩
  · split
    · exact ((touch_endFetch tick).store x).trans hs
    · exact hs
  · split
    · rw [endFetch_endFetch, hf]
    · exact hf
  · rcases store_failFetch u n r.store with e | e <;> rw [e]
    · exact a.store
    · simpa using a.store
  · rw [units_failFetch]
    exact a.unit

theorem FetchOpen.fails (a : FetchOpen k r tick u) : FetchFailed k r tick (u.failFetch k) := by
  obtain ⟨x, hx, hs, hf⟩ := a.extent
  obtain ⟨st, hst⟩ := Option.isSome_iff_exists.1 a.store
  refine ⟨?_, ?_, ?_, by simpa using a.clock⟩
  · rw [extent_failFetch, hx, a.clock, Option.map_some, if_pos rfl, hf]
  · have e : (u.failFetch k).store r.store =
        (u.modStore r.store (fun x => { x with reservation := 0 })).store r.store := by
      rw [failFetch_eq hx, hs]
      rfl
    rw [e, store_modStore_same hst]
    rfl
  · rw [failFetch_eq hx, hs]
    exact List.getElem?_set_self a.unit

theorem FetchFailed.failFetch (a : FetchFailed k r tick u) (n : Nat) : FetchFailed k r tick (u.failFetch n) := by
  refine ⟨?_, ?_, ?_, by simpa using a.clock⟩
  · rw [extent_failFetch, a.extent, a.clock, Option.map_some]
    split
    · rw [endFetch_endFetch]
    · rfl
  · rcases store_failFetch u n r.store with e | e <;> rw [e]
    · exact a.reservation
    · obtain ⟨st, hst, _⟩ := Option.map_eq_some_iff.1 a.reservation
      rw [hst]
      rfl
  · obtain ⟨hl, _⟩ := List.getElem?_eq_some_iff.1 a.unit
    rcases unit_failFetch u n hl with e | e <;> rw [e]
    exact a.unit

/-- What a failed fetch keeps of extents, stores and units, the reset of a slot keeps. -/
theorem resetSlot_keeps {P : State → Prop} (ref : SlotRef) (hP : P u)
    (congr : ∀ {u v : State}, P u → v.et = u.et → v.storeMap = u.storeMap → v.write = u.write → v.clock = u.clock → P v)
    (fail : ∀ n, P (u.failFetch n)) : P (u.resetSlot ref) := by
  obtain ⟨_, het, hmap, hwrite⟩ := resetSlot_fetchReset u ref
  cases hf : u.fetching ref with
  | none =>
    rw [failFetching_of_not_fetching hf] at het hmap hwrite
    exact congr hP het hmap hwrite (by simp)
  | some n =>
    rw [failFetching_of_fetching hf] at het hmap hwrite
    exact congr (fail n) het hmap hwrite (by simp)

theorem FetchOpen.resetSlot (a : FetchOpen k r tick u) (ref : SlotRef) : FetchOpen k r tick (u.resetSlot ref) :=
  resetSlot_keeps ref a .congr a.failFetch

theorem FetchFailed.resetSlot (a : FetchFailed k r tick u) (ref : SlotRef) :
    FetchFailed k r tick (u.resetSlot ref) :=
  resetSlot_keeps ref a .congr a.failFetch

/-- The reset of the slot that fetches for the extent fails its fetch (R44, R56). -/
theorem FetchOpen.resetSlot_fails (a : FetchOpen k r tick u) {ref : SlotRef} (h : u.fetching ref = some k) :
    FetchFailed k r tick (u.resetSlot ref) := by
  obtain ⟨_, het, hmap, hwrite⟩ := resetSlot_fetchReset u ref
  rw [failFetching_of_fetching h] at het hmap hwrite
  exact a.fails.congr het hmap hwrite (by simp)

/-- An extent for which a slot does not fetch is as it was after the slot's reset. -/
theorem extent_resetSlot_other {ref : SlotRef} (h : u.fetching ref ≠ some k) :
    (u.resetSlot ref).extent k = u.extent k := by
  have e := resetSlot_fetchReset u ref
  rw [State.extent_congr (s := u.failFetching ref) (by rw [e.et])]
  cases hf : u.fetching ref with
  | none => rw [failFetching_of_not_fetching hf]
  | some n =>
    have hk : k ≠ n := fun hk => h (hk ▸ hf)
    simp [failFetching_of_fetching hf, extent_failFetch, hk]

/-! ### The slots of a link one after the other -/

/-- No slot comes to fetch by the reset of another. -/
theorem fetching_of_resetSlot {ref x : SlotRef} (h : (u.resetSlot ref).fetching x = some k) :
    u.fetching x = some k := by
  rw [(resetSlot_fetchReset u ref).fetching] at h
  split at h
  · cases h
  · exact h

theorem extent_resetSlots_other (refs : List SlotRef) (h : ∀ x ∈ refs, u.fetching x ≠ some k) :
    (refs.foldl State.resetSlot u).extent k = u.extent k := by
  induction refs generalizing u with
  | nil => rfl
  | cons ref refs ih =>
    rw [List.foldl_cons, ih fun x hx hf => h x (.tail _ hx) (fetching_of_resetSlot hf)]
    exact extent_resetSlot_other (h ref (.head _))

theorem FetchFailed.resetSlots (a : FetchFailed k r tick u) (refs : List SlotRef) :
    FetchFailed k r tick (refs.foldl State.resetSlot u) :=
  List.foldlRecOn refs _ a fun _ b ref _ => b.resetSlot ref

/-- Once the slot that fetches for the extent has been reset, its fetch has failed, whatever the other slots held. -/
theorem FetchOpen.resetSlots (a : FetchOpen k r tick u) {ref : SlotRef} (hf : u.fetching ref = some k)
    (refs : List SlotRef) (hm : ref ∈ refs) : FetchFailed k r tick (refs.foldl State.resetSlot u) := by
  induction refs generalizing u with
  | nil => cases hm
  | cons x refs ih =>
    rw [List.foldl_cons]
    by_cases hx : ref = x
    · exact (a.resetSlot_fails (hx ▸ hf)).resetSlots refs
    · refine ih (a.resetSlot x) ?_ (by simpa [hx] using hm)
      rw [(resetSlot_fetchReset u x).fetching, if_neg hx, hf]

end

/-- What a link's reset does to extents, stores and units is what the reset of its slots does. -/
theorem resetLink_tables (s : State) (n : Node) :
    let u := (linkSlots n).foldl State.resetSlot s
    (s.resetLink n).et = u.et ∧ (s.resetLink n).storeMap = u.storeMap ∧ (s.resetLink n).write = u.write ∧
      (s.resetLink n).clock = u.clock := by
  simp [State.resetLink]

/-- Settles O10: the slots of the link are reset one after the other, each with the failure of its fetch. -/
theorem linkResetFailsTheFetches : Obligations.LinkResetFailsTheFetches := by
  intro s t n hlive h
  obtain rfl : s.resetLink n = t := by
    have e : exec (.linkReset n) s = .next (s.resetLink n) := if_pos hlive
    exact Host.Outcome.next.inj (e.symm.trans h)
  obtain ⟨het, hmap, hwrite, hclock⟩ := resetLink_tables s n
  refine ⟨fun k r hr hno => ?_, fun k r i h w hi hs hd hk hr ho hf hst hu => ?_⟩
  · rw [State.extent_congr (congrArg _ het), extent_resetSlots_other, hr]
    intro ref hm hfetch
    obtain ⟨i, _, rfl⟩ := List.mem_map.1 hm
    obtain ⟨h, w, hs, hd, hk⟩ := (fetching_iff s _ k).1 hfetch
    exact hno i h w hs hd hk
  · have hopen : FetchOpen k r s.clock.tick s := ⟨⟨r, hr, rfl, rfl⟩, hst, hu, rfl⟩
    have hfetch : s.fetching ⟨.node n, i⟩ = some k := (fetching_iff s _ k).2 ⟨h, w, hs, hd, hk⟩
    have hm : (⟨.node n, i⟩ : SlotRef) ∈ linkSlots n := List.mem_map.2 ⟨i, List.mem_range.2 hi, rfl⟩
    have a := (hopen.resetSlots hfetch _ hm).congr het hmap hwrite hclock
    refine ⟨a.extent.trans ?_, a.reservation, unit_of_get a.unit⟩
    simp [Extent.endFetch, ho, hf]

end Sys2Proof.Machine
end

section
/-! SUPPORT. The tick: the move of the clock, and the judgements made in its step (R89, R98 to R100, R38, R157). -/

namespace Sys2Proof.Machine

/-! ### The move of the clock -/

/-- The first row of R98 that applies, with the two rows of a pending retard apart. -/
theorem slew_eq (c : Clock) :
    c.slew =
      if 4294967295 ≤ c.seconds then c
      else if 0 < c.advance then { c with seconds := min 4294967295 (c.seconds + 2), advance := c.advance - 1 }
      else if 0 < c.retard ∧ c.skip = true then { c with retard := c.retard - 1, skip := false }
      else if 0 < c.retard then { c with seconds := c.seconds + 1, skip := true }
      else { c with seconds := c.seconds + 1 } := by
  unfold Clock.slew
  rw [show Config.maxSeconds = 4294967295 from rfl]
  by_cases hr : 0 < c.retard <;> by_cases hk : c.skip = true <;> simp [hr, hk]

/-- A step on archive seconds leaves the tick count, the clock state and the holdover counter (R98). -/
theorem slew_keeps (c : Clock) : c.slew.holdover = c.holdover ∧ c.slew.state = c.state := by
  unfold Clock.slew
  repeat' split
  all_goals exact ⟨rfl, rfl⟩

theorem age_eq (c : Clock) (time : Nat) :
    c.age time = { c with holdover := if c.holdover < time then c.holdover + 1 else c.holdover } := by
  unfold Clock.age
  split <;> rfl

/-- The holdover counter after a tick (R100). -/
def State.aged (s : State) : Nat :=
  if s.clock.holdover < s.settings.holdoverTime then s.clock.holdover + 1 else s.clock.holdover

/-- The clock after a tick, but for the tick count's value (R89, R98, R100). -/
theorem slew_age_eq (s : State) (tick : Nat) :
    { s.clock.slew.age s.settings.holdoverTime with tick := tick } =
      { s.clock.slew with tick := tick, holdover := s.aged } := by
  rw [age_eq, (slew_keeps s.clock).1]
  rfl

theorem tickClock_of_lt {s : State} (h : s.clock.tick < 2 ^ 64 - 1) :
    s.tickClock = { s with clock := { s.clock.slew with tick := s.clock.tick + 1, holdover := s.aged } } := by
  have h : s.clock.tick < Config.maxTick := h
  simp only [State.tickClock, State.nextTick, if_pos h, slew_age_eq]
  rfl

/-- After its last value the tick count is a free value of 64 bits (R89; log 7). -/
theorem tickClock_of_le {s : State} (h : 2 ^ 64 - 1 ≤ s.clock.tick) :
    s.tickClock = { s with
      clock := { s.clock.slew with tick := (Config.freeTick s.freeCount).toNat, holdover := s.aged }
      freeCount := s.freeCount + 1 } := by
  have h : ¬ s.clock.tick < Config.maxTick := Nat.not_lt.2 h
  simp only [State.tickClock, State.nextTick, if_neg h, slew_age_eq]
  rfl

theorem tickClock_clock (s : State) :
    s.tickClock.clock.state = s.clock.state ∧ s.tickClock.clock.holdover = s.aged := by
  have e : s.tickClock.clock = { s.clock.slew with tick := s.nextTick, holdover := s.aged } := slew_age_eq s _
  rw [e]
  exact ⟨(slew_keeps s.clock).2, rfl⟩

/-! ### What is judged in the step -/

theorem judgeHoldover_eq (s : State) :
    s.judgeHoldover =
      if s.clock.state = .locked ∧ s.settings.holdoverTime ≤ s.clock.holdover then
        s.changeClock { s.clock with state := .holdover }
      else s :=
  if_congr (by simp) rfl rfl

/-- Whatever a change of clock state raises and records, the clock is the one given (R103). -/
theorem changeClock_clock (s : State) (c : Clock) : (s.changeClock c).clock = c := by
  unfold State.changeClock
  split <;> simp

/-- The judgements of a tick in their order (log 2). -/
theorem judgeTick_eq (s : State) :
    s.judgeTick =
      ((((s.judgeHoldover.judgeTimer 0).judgeTimer 1).judgeTimer 2).judgeTimer 3).judgePage := by
  simp only [State.judgeTick, List.range_succ, List.range_zero, List.nil_append, List.cons_append, List.foldl_cons,
    List.foldl_nil]

/-- The judgements of a tick after HOLDOVER leave the clock (R38, R157). -/
theorem judgeTick_clock (s : State) : s.judgeTick.clock = s.judgeHoldover.clock := by
  simp [State.judgeTick]

theorem exec_tick {s : State} (h : s.live = true) : exec .tick s = .next s.tickClock.judgeTick := if_pos h

theorem exec_holdover {s : State} (h : s.live = true) : exec .holdover s = .next s.judgeHoldover := if_pos h

/-- A LOCKED clock whose holdover counter comes to the holdover time is HOLDOVER in the same step (R100). -/
theorem tick_holdover {s : State} (hl : s.clock.state = .locked) (ht : s.settings.holdoverTime ≤ s.aged) :
    s.tickClock.judgeTick.clock.state = .holdover ∧ s.tickClock.judgeTick.clock.holdover = s.aged := by
  obtain ⟨hstate, hcount⟩ := tickClock_clock s
  rw [judgeTick_clock, judgeHoldover_eq, if_pos ⟨hstate.trans hl, by rw [hcount]; simpa using ht⟩, changeClock_clock]
  exact ⟨rfl, hcount⟩

/-- Settles O43: the clock by its move, HOLDOVER by its judgement, the rest as `judgeTick` has it. -/
theorem ticksMoveTheClock : Obligations.TicksMoveTheClock := by
  intro s hlive c aged stepped relaxed judged
  have haged : s.aged = aged := rfl
  have hstepped : s.clock.slew = stepped := slew_eq s.clock
  have hrelaxed (u : State) : u.judgeHoldover = relaxed u := judgeHoldover_eq u
  have hjudged (u : State) : u.judgeTick = judged u := by
    rw [judgeTick_eq, hrelaxed]
  refine ⟨fun ht => ?_, fun ht => ⟨_, (Config.freeTick s.freeCount).isLt, ?_⟩, ?_, fun t h hl ha => ?_⟩
  · rw [exec_tick hlive, tickClock_of_lt ht, haged, hstepped, hjudged]
  · rw [exec_tick hlive, tickClock_of_le ht, haged, hstepped, hjudged]
  · rw [← hrelaxed]
    exact exec_holdover hlive
  · rw [exec_tick hlive] at h
    obtain rfl := Host.Outcome.next.inj h
    exact tick_holdover hl ha

end Sys2Proof.Machine
end

section
/-! SUPPORT. The data check bit by bit (R61), the ends of slots (R168), and the reader counts (R63). -/

namespace Sys2Proof.Machine

/-! ### The data check -/

/-- A bit enters the register: shifted, and combined with the polynomial when the bit shifted out differs (R61). -/
theorem crcBit_eq (reg : Word32) (bit : Bool) :
    crcBit reg bit = if reg.getLsbD 0 = bit then reg >>> 1 else (reg >>> 1) ^^^ 0xEDB88320#32 := by
  by_cases h : reg.getLsbD 0 = bit
  · simp only [crcBit, h, bne_self_eq_false, Bool.false_eq_true, if_false, if_true]
  · rw [crcBit, if_pos (bne_iff_ne.2 h), if_neg h]

theorem crcByte_eq_foldl (reg : Word32) (b : Byte) :
    crcByte reg b = (List.range 8).foldl (fun r i => crcBit r (b.getLsbD i)) reg := rfl

/-- A 32-bit word is stored least significant byte first (R61, R186). -/
theorem le_four (v : Word32) :
    le 4 v.toNat = [v.extractLsb' 0 8, v.extractLsb' 8 8, v.extractLsb' 16 8, v.extractLsb' 24 8] := by
  have byte (k : Nat) : BitVec.ofNat 8 (v.toNat / 2 ^ k) = v.extractLsb' k 8 := by
    refine BitVec.eq_of_toNat_eq ?_
    rw [BitVec.toNat_ofNat, BitVec.extractLsb'_toNat, Nat.shiftRight_eq_div_pow]
  simp only [le, ← byte, Nat.div_div_eq_div_mul, Nat.reducePow, Nat.reduceMul, Nat.div_one]

/-- Settles O23: the test values by evaluation, the bytes of a division one after the other, the bits by the register's
step. -/
theorem dataCheckHasItsTestValue : Obligations.DataCheckHasItsTestValue := by
  refine ⟨by decide +kernel, rfl, fun _ _ _ => List.foldl_append, fun _ => rfl, le_four, fun reg b => ?_⟩
  simp only [crcByte_eq_foldl, crcBit_eq]

/-! ### The end of an operation -/

theorem pendingSet_setSlot (s : State) (ref : SlotRef) (v : Slot) : (s.setSlot ref v).pendingSet = s.pendingSet :=
  State.pendingSet_congr (by simp)

/-- Raising a class on one target leaves the pending sets of the others (R180). -/
theorem pendingSet_raiseAt_other (s : State) {m k : Master} (c : EventClass) (h : k ≠ m) :
    (s.raiseAt m c).pendingSet k = s.pendingSet k := by
  unfold State.raiseAt
  split
  · rfl
  · rcases m with (_ | _) | _ <;> dsimp only
    · split
      · rcases k with (_ | _) | _
        · exact absurd rfl h
        · rfl
        · rfl
      · rfl
    · split
      · rcases k with (_ | _) | _
        · rfl
        · exact absurd rfl h
        · rfl
      · rfl
    · rcases k with (_ | _) | _
      · rfl
      · rfl
      · exact absurd rfl h

theorem endSlot_running {s : State} {ref : SlotRef} {h : Held} {w : Work} (hs : s.slot ref = some (.running h w))
    (res : Result) : s.endSlot ref res = (s.setSlot ref (.finished h res)).raiseAt ref.master .completion := by
  rw [State.endSlot, hs]

theorem endSlot_detached {s : State} {ref : SlotRef} {w : Work} (hs : s.slot ref = some (.detached w))
    (res : Result) : s.endSlot ref res = s.setSlot ref .free := by
  rw [State.endSlot, hs]

/-- The end of an operation raises COMPLETION to the slot's own link or port alone (R168, R180). -/
theorem pendingSet_endSlot_other (s : State) (ref : SlotRef) (res : Result) {m : Master} (h : m ≠ ref.master) :
    (s.endSlot ref res).pendingSet m = s.pendingSet m := by
  unfold State.endSlot
  split
  · rw [pendingSet_raiseAt_other _ _ h, pendingSet_setSlot]
  · rw [pendingSet_setSlot]
  · rfl

/-! ### Reader counts (R63) -/

/-- A reader count after the entries of one extent are changed by `f`. -/
theorem readerCount_map (s : State) (n m : Nat) (f : Nat → Nat) :
    (s.withReaders (s.readers.map (fun p => if p.1 == n then (n, f p.2) else p))).readerCount m =
      ((s.readers.find? (fun p => p.1 == m)).map (fun p => if m = n then f p.2 else p.2)).getD 0 := by
  have key (p : Nat × Nat) : (if p.1 == n then (n, f p.2) else p).1 = p.1 := by
    split
    · next h => exact (beq_iff_eq.1 h).symm
    · rfl
  simp only [State.readerCount, State.withReaders_readers, List.find?_map, Function.comp_def, key, Option.map_map]
  refine congrArg (Option.getD · 0) (Option.map_congr fun p hp => ?_)
  obtain rfl : p.1 = m := by simpa using List.find?_some hp
  by_cases h : p.1 = n
  · simp [h]
  · simp [h]

theorem readerCount_addReader (s : State) (n m : Nat) :
    (s.addReader n).readerCount m = if m = n then s.readerCount n + 1 else s.readerCount m := by
  unfold State.addReader
  split
  · next h =>
    obtain ⟨p, hp⟩ : ∃ p, s.readers.find? (fun p => p.1 == n) = some p :=
      Option.isSome_iff_exists.1 (List.find?_isSome.2 (List.any_eq_true.1 h))
    rw [readerCount_map s n m (· + 1)]
    by_cases hm : m = n
    · subst hm
      simp [State.readerCount, hp]
    · simp [State.readerCount, hm]
  · next h =>
    have hnone : s.readers.find? (fun p => p.1 == n) = none :=
      List.find?_eq_none.2 fun p hp hk => h (List.any_eq_true.2 ⟨p, hp, hk⟩)
    simp only [State.readerCount, State.withReaders_readers, List.find?_append]
    by_cases hm : m = n
    · subst hm
      simp [hnone]
    · simp [hm, Ne.symm hm]

theorem readerCount_dropReader (s : State) (n m : Nat) :
    (s.dropReader n).readerCount m = if m = n then s.readerCount n - 1 else s.readerCount m := by
  unfold State.dropReader
  split
  · next h =>
    simp only [State.readerCount, State.withReaders_readers, List.find?_filter] at h ⊢
    by_cases hm : m = n
    · subst hm
      rw [if_pos rfl, List.find?_eq_none.2 (by simp), Nat.sub_eq_zero_of_le h]
      rfl
    · have hkey : (fun p : Nat × Nat => decide ((p.1 != n) = true ∧ (p.1 == m) = true)) = fun p => p.1 == m := by
        funext p
        by_cases hp : p.1 = m
        · simp [hp, hm]
        · simp [hp]
      rw [if_neg hm, hkey]
  · rw [readerCount_map s n m (· - 1)]
    by_cases hm : m = n
    · subst hm
      cases hf : s.readers.find? (fun p => p.1 == m) <;> simp [State.readerCount, hf]
    · simp [State.readerCount, hm]

/-- The entry of an extent goes with its last reader (R63). -/
theorem dropReader_clears {s : State} {n : Nat} (h : s.readerCount n ≤ 1) :
    ∀ p ∈ (s.dropReader n).readers, p.1 ≠ n := by
  intro p hp
  rw [State.dropReader, if_pos h, State.withReaders_readers, List.mem_filter] at hp
  exact bne_iff_ne.1 hp.2

/-- Settles O24: the end of an operation by what its slot holds, a reader count by its one entry. -/
theorem slotsFinishAndReadersAreCounted : Obligations.SlotsFinishAndReadersAreCounted := by
  refine ⟨fun s ref res => ⟨fun h w hs => ⟨endSlot_running hs res, State.slot_endSlot_running s res hs⟩,
    fun w hs => ⟨endSlot_detached hs res, by rw [State.slot_endSlot, if_pos rfl, hs]; rfl⟩, fun hr hd => ?_,
    fun r hr => by rw [State.slot_endSlot, if_neg hr], fun m hm => pendingSet_endSlot_other s ref res hm⟩,
    fun s n m => ⟨readerCount_addReader s n m, readerCount_dropReader s n m, rfl, rfl, dropReader_clears⟩⟩
  unfold State.endSlot
  split
  · next h w hs => exact absurd hs (hr h w)
  · next w hs => exact absurd hs (hd w)
  · rfl

end Sys2Proof.Machine
end

section
/-! SUPPORT. READ: its checks, its FETCH, and its transfer to node memory (R63 to R67, R72, R170, R172). -/

namespace Sys2Proof.Machine

/-! ### The record a READ or VERIFY names (R64, R65, R68) -/

/-- An extent that is not being written is readable but for the states of GONE (R64). -/
theorem readable_iff {r : Extent} (h : ¬ (r.state = .opened ∨ r.state = .closing)) :
    r.readable = true ↔
      ¬ (r.state = .released ∨ r.state = .voided ∨ (r.state = .disposing ∧ r.sub ≠ some .queued)) := by
  unfold Extent.readable
  cases hs : r.state <;> simp_all

@[simp] theorem State.readableRecord_takeMark (s : State) (m : Master) :
    (s.takeMark m).readableRecord = s.readableRecord := by
  funext n
  simp [State.readableRecord, State.named, State.extent_takeMark]

/-- What an owner makes of the shared checks: `g` of the first code they refuse with, `k` of a readable record. -/
theorem readableRecord_elim {β : Type} {s : State} {n : Nat} {f : Except Code Extent → β} {g : Code → β}
    {k : Extent → β} (herror : ∀ code, f (.error code) = g code) (hok : ∀ r, f (.ok r) = k r) :
    f (s.readableRecord n) =
      if n = 0 ∨ s.et.next ≤ n then g .notFound
      else match s.extent n with
        | none => g .evicted
        | some r =>
          if r.state = .opened ∨ r.state = .closing then g .notCommitted
          else if r.state = .released ∨ r.state = .voided ∨ (r.state = .disposing ∧ r.sub ≠ some .queued) then
            g .gone
          else k r := by
  unfold State.readableRecord
  by_cases hn : n = 0 ∨ s.et.next ≤ n
  · rw [if_pos hn, named_notFound hn]
    exact herror _
  rw [if_neg hn]
  obtain ⟨h0, hlt⟩ := not_or.1 hn
  cases he : s.extent n with
  | none =>
    rw [named_evicted h0 (not_le.1 hlt) he]
    exact herror _
  | some r =>
    rw [named_ok h0 (not_le.1 hlt) he]
    dsimp only
    by_cases hw : r.state = .opened ∨ r.state = .closing
    · rw [if_pos ((writing_iff r).2 hw), if_pos hw]
      exact herror _
    rw [if_neg (mt (writing_iff r).1 hw), if_neg hw]
    by_cases hg : r.state = .released ∨ r.state = .voided ∨ (r.state = .disposing ∧ r.sub ≠ some .queued)
    · rw [if_neg (mt (readable_iff hw).1 (not_not.2 hg)), if_pos hg]
      exact herror _
    · rw [if_pos ((readable_iff hw).2 hg), if_neg hg]
      exact hok r

/-! ### READ -/

/-- What READ's owner makes of the shared checks (R65). -/
def readVerdict (c : Ctx) (ext offset blocks : Nat) (s : State) : Except Code Extent → Verdict
  | .error code => .refuse code []
  | .ok r =>
    if r.count < offset + blocks then .refuse .badRange []
    else
      match c.slot with
      | none => .refuse .slotsFull []
      | some i =>
        .take i (.read ⟨ext, offset, blocks, c.fragments, [], none⟩) []
          ((s.addReader ext).place (readOp ⟨c.master, i⟩ (r.start + offset) blocks))

theorem judgeRead_of_range (c : Ctx) (s : State) (ext offset : Nat) {blocks : Nat} (h : 1 ≤ blocks ∧ blocks ≤ 32) :
    judgeRead c (.read ext offset blocks) s = readVerdict c ext offset blocks s (s.readableRecord ext) := by
  dsimp only [judgeRead]
  rw [show Config.maxRun = 32 from rfl, if_neg (by simp; omega)]
  cases s.readableRecord ext <;> rfl

/-- READ as its owner answers it (R65). -/
theorem exec_read {s : State} {h : HandOver} {c : Capsule} {ext offset blocks : Nat} {frags : List Fragment}
    (R : Reaches s h c (.read ext offset blocks) frags) :
    exec (.read h) s = .next ((s.takeMark c.master).conclude c
      (judgeRead (Ctx.of s c frags) (.read ext offset blocks) (s.takeMark c.master))) :=
  congrArg _ (State.handOver_of_reaches R judgeRead)

theorem readAt_of_slot {s : State} {ref : SlotRef} {w : ReadWork}
    (h : s.slot ref = some (.detached (.read w)) ∨ ∃ h, s.slot ref = some (.running h (.read w))) :
    s.readAt ref = some w := by
  obtain h | ⟨_, h⟩ := h <;> rw [State.readAt, h]

/-- Settles O38: the checks one after the other, on the state with the link's mark cleared; then the FETCH by what its
slot holds when it completes. -/
theorem readIsTakenAndFetched : Obligations.ReadIsTakenAndFetched := by
  refine ⟨fun s h c ext offset blocks frags R => ?_,
    fun s ref first blocks o w ha => ⟨fun data hlen => ?_, fun hs => ?_⟩⟩
  · intro no
    have refused (code : Code) := State.conclude_refuse s c code []
    rw [exec_read R]
    by_cases hb : blocks < 1 ∨ 32 < blocks
    · dsimp only [judgeRead]
      rw [show Config.maxRun = 32 from rfl, if_pos (by simp; omega), if_pos hb, refused]
    rw [judgeRead_of_range _ _ _ _ (by omega), State.readableRecord_takeMark, if_neg hb]
    refine readableRecord_elim (f := fun v => Host.Outcome.next ((s.takeMark c.master).conclude c
      (readVerdict (Ctx.of s c frags) ext offset blocks (s.takeMark c.master) v)))
      (fun code => congrArg _ (refused code)) fun r => ?_
    dsimp only [readVerdict, Ctx.of]
    by_cases hr : r.count < offset + blocks
    · rw [if_pos hr, if_pos hr, refused]
    rw [if_neg hr, if_neg hr]
    cases s.freeSlot c.master with
    | none => exact congrArg _ (refused _)
    | some i => exact congrArg _ (State.conclude_take ..)
  · have e : exec (.readFetchOk data) s = .next (s.readFetched ref data).complete := by
      show execReadFetchOk data s = _
      simp only [execReadFetchOk, ha]
      exact if_pos hlen
    refine ⟨fun h hs => ?_, fun hs => ?_⟩
    · rw [e, State.readFetched, hs]
    · rw [e, State.readFetched, hs]
  · show execReadFetchMediaError s = _
    simp only [execReadFetchMediaError, ha, State.readFault, readAt_of_slot hs]

/-! ### The transfer of a READ -/

/-- The addresses a transfer writes are those of its fragments in order (R66, R170). -/
theorem dmaCells_addresses (frags : List Fragment) (data : List Byte)
    (h : (frags.map (·.len)).sum = data.length) :
    (dmaCells frags data).map (·.1) = (frags.map (fun f => (List.range f.len).map (f.addr + ·))).flatten := by
  induction frags generalizing data with
  | nil => rfl
  | cons f fs ih =>
    simp only [List.map_cons, List.sum_cons] at h
    have hrest : (fs.map (·.len)).sum = (data.drop f.len).length := by rw [List.length_drop]; omega
    simp only [dmaCells, List.map_append, List.map_cons, List.flatten_cons, ih _ hrest]
    congr 1
    refine List.ext_getElem (by simp; omega) fun i _ _ => by simp

/-- The bytes a transfer writes are the fetched bytes in order (R66). -/
theorem dmaCells_bytes (frags : List Fragment) (data : List Byte) (h : (frags.map (·.len)).sum = data.length) :
    (dmaCells frags data).map (·.2) = data := by
  induction frags generalizing data with
  | nil => exact (List.eq_nil_of_length_eq_zero h.symm).symm
  | cons f fs ih =>
    simp only [List.map_cons, List.sum_cons] at h
    have hrest : (fs.map (·.len)).sum = (data.drop f.len).length := by rw [List.length_drop]; omega
    rw [dmaCells, List.map_append, ih _ hrest]
    have hfirst : ((data.take f.len).mapIdx (fun i b => ((f.addr + i, b) : Host.Cell))).map (·.2) = data.take f.len :=
      List.ext_getElem (by simp) fun i _ _ => by simp
    rw [hfirst, List.take_append_drop]

theorem slot_latchDma (s : State) (n : Node) (cells : List Host.Cell) (ref : SlotRef) :
    (s.latchDma n cells).slot ref = s.slot ref := by
  obtain ⟨m, j⟩ := ref
  cases m with
  | cport => simp [State.slot, State.slots]
  | node k =>
    by_cases h : k = n
    · subst h
      simp [State.slot, State.slots, State.latchDma]
    · simp [State.slot, State.slots, State.latchDma, State.link_withLink_other s _ h]

theorem readDmaFault_eq {s : State} {n : Node} {i : Nat} {h : Held} {w : ReadWork}
    (hs : s.slot ⟨.node n, i⟩ = some (.running h (.read w))) (placed : Nat) :
    s.readDmaFault n i w placed =
      (((s.withLink n { s.link n with dmaOut := (dmaCells w.fragments w.buffer).take placed }).dropReader w.ext).raiseAt
        (.node n) .fetchFault).endSlot ⟨.node n, i⟩ ⟨.nodeMemoryFault, []⟩ := by
  rw [State.readDmaFault, raiseFault_of_running (h := h) (w := .read w)]
  · rfl
  · rw [slot_dropReader, slot_latchDma, hs]

/-- Settles O39: the three commands find the slot's READ with its transfer begun. -/
theorem readTransfersEnd : Obligations.ReadTransfersEnd := by
  intro s n i began h w hs hd hlen
  refine ⟨dmaCells w.fragments w.buffer, dmaCells_addresses _ _ hlen, dmaCells_bytes _ _ hlen, ?_, fun placed => ?_,
    fun sent => ?_⟩
  · show execReadDmaComplete n i s = _
    simp only [execReadDmaComplete, hs, hd, Option.isSome_some, if_true, State.latchDma]
  · show execReadDmaFailed n i placed s = _
    simp only [execReadDmaFailed, hs, hd, Option.isSome_some, if_true, readDmaFault_eq hs]
  · have hlate : s.unanswered w.dma sent = true ↔ began ≤ sent ∧ sent + 2 ≤ s.clock.tick := by
      rw [hd, State.unanswered, Bool.and_eq_true, decide_eq_true_eq, decide_eq_true_eq]
      exact Iff.rfl
    show execDmaReadTimeout n i sent s = _
    simp only [execDmaReadTimeout, hs, hlate, readDmaFault_eq hs]
    split <;> rfl

end Sys2Proof.Machine
end

section
/-! SUPPORT. VERIFY: its checks, its runs, the comparison with the check value, and the place of its INTEGRITY record
(R68 to R71, R152, R155). -/

namespace Sys2Proof.Machine

/-! ### VERIFY -/

/-- What VERIFY's owner makes of the shared checks (R68). -/
def verifyVerdict (c : Ctx) (ext : Nat) (s : State) : Except Code Extent → Verdict
  | .error code => .refuse code []
  | .ok r =>
    match c.slot with
    | none => .refuse .slotsFull []
    | some i =>
      .take i (.verify ⟨ext, crcInitial, 0, 0, none⟩) [] ((s.addReader ext).place (verifyOp ⟨c.master, i⟩ r 0))

theorem judgeVerify_eq (c : Ctx) (s : State) (ext : Nat) :
    judgeVerify c (.verify ext) s = verifyVerdict c ext s (s.readableRecord ext) := by
  dsimp only [judgeVerify]
  cases s.readableRecord ext <;> rfl

/-- VERIFY as its owner answers it (R68). -/
theorem exec_verify {s : State} {h : HandOver} {c : Capsule} {ext : Nat} (R : Reaches s h c (.verify ext) []) :
    exec (.verify h) s = .next ((s.takeMark c.master).conclude c
      (verifyVerdict (Ctx.of s c []) ext (s.takeMark c.master) (s.readableRecord ext))) := by
  rw [← State.readableRecord_takeMark s c.master, ← judgeVerify_eq]
  exact congrArg _ (State.handOver_of_reaches R judgeVerify)

/-! ### The slot of a VERIFY -/

theorem verifyAt_of_slot {s : State} {ref : SlotRef} {w : VerifyWork}
    (h : s.slot ref = some (.detached (.verify w)) ∨ ∃ h, s.slot ref = some (.running h (.verify w))) :
    s.verifyAt ref = some w := by
  obtain h | ⟨_, h⟩ := h <;> rw [State.verifyAt, h]

/-- The change of a VERIFY's end, with the retained states written out (R3). -/
theorem verified_eq (integ : Integrity) (second : Nat) :
    Extent.verified integ second = fun x =>
      if x.state = .committed ∨ x.state = .disposing ∨ x.state = .disposalFailed then
        { x with integrity := some integ, lastVerified := some second }
      else x := by
  funext x
  exact if_congr (retained_iff x) rfl rfl

/-- A run with OK enters its blocks into the register; then comes the next run, or the comparison (R69 to R71). -/
theorem verifyFetched_eq {s : State} {ref : SlotRef} {w : VerifyWork} {r : Extent} (hw : s.verifyAt ref = some w)
    (hr : s.extent w.ext = some r) (blocks : Nat) (data : List Byte) :
    let w' : VerifyWork := { w with
      register := crcAbsorb w.register data, offset := w.offset + blocks, verified := w.verified + blocks }
    s.verifyFetched ref blocks data =
      if w'.offset < r.count then (s.setVerify ref w').place (verifyOp ref r w'.offset)
      else if crcFinal w'.register = r.check.getD 0 then s.verifyMatch ref w' (crcFinal w'.register)
      else s.damaged ref w' (.mismatch (crcFinal w'.register)) := by
  simp only [State.verifyFetched, hw, hr]

/-- Settles O40: the checks one after the other; then a run by what its slot holds, RUNNING or DETACHED, when it
completes. -/
theorem verifyRunsToItsEnd : Obligations.VerifyRunsToItsEnd := by
  refine ⟨fun s h c ext R => ?_, fun s ref first blocks o w r ha hr hs => ?_⟩
  · intro no
    have refused (code : Code) := State.conclude_refuse s c code []
    rw [exec_verify R]
    refine readableRecord_elim (f := fun v => Host.Outcome.next ((s.takeMark c.master).conclude c
      (verifyVerdict (Ctx.of s c []) ext (s.takeMark c.master) v))) (fun code => congrArg _ (refused code)) fun r => ?_
    dsimp only [verifyVerdict, Ctx.of]
    cases s.freeSlot c.master with
    | none => exact congrArg _ (refused _)
    | some i => exact congrArg _ (State.conclude_take ..)
  intro keep
  have hw := verifyAt_of_slot hs
  have hkeep (w' : VerifyWork) : s.setVerify ref w' = keep w' := by
    obtain hs | ⟨_, hs⟩ := hs <;> simp only [State.setVerify, keep, hs]
  refine ⟨fun data hlen => ?_, ?_⟩
  · intro w' value
    have e : exec (.verifyFetchOk data) s = .next (s.verifyFetched ref blocks data).complete := by
      show execVerifyFetchOk data s = _
      simp only [execVerifyFetchOk, ha]
      exact if_pos hlen
    have hrun : s.verifyFetched ref blocks data =
        if w'.offset < r.count then (s.setVerify ref w').place (verifyOp ref r w'.offset)
        else if value = r.check.getD 0 then s.verifyMatch ref w' value
        else s.damaged ref w' (.mismatch value) := verifyFetched_eq hw hr blocks data
    rw [e, hrun, hkeep]
    by_cases hmore : w'.offset < r.count
    · rw [if_pos hmore, if_pos hmore]
      rfl
    rw [if_neg hmore, if_neg hmore]
    by_cases hmatch : value = r.check.getD 0
    · rw [if_pos hmatch, if_pos hmatch, State.verifyMatch, verified_eq]
      rfl
    · rw [if_neg hmatch, if_neg hmatch, State.damaged, hkeep]
  · show execVerifyFetchMediaError s = _
    simp only [execVerifyFetchMediaError, ha, State.verifyFault, hw, State.damaged, hkeep]

/-! ### The place of an INTEGRITY record -/

theorem grantPlace_of_not_grantable {s : State} {p : PlaceRequest} (h : s.journal.grantable p = false) :
    s.grantPlace p = s :=
  if_neg (by simp [h])

/-- A row of start-up that finds no request of its own at the head, or one that waits on, changes nothing (R155). -/
theorem exec_recoveryVoid_of_not_grantable {s : State} (h : ∀ n, s.journal.grantable (.recovery n) = false) :
    exec .recoveryVoid s = .next s := by
  show execRecoveryVoid s = _
  unfold execRecoveryVoid
  split
  · rw [grantPlace_of_not_grantable (h _)]
  · rfl

theorem exec_start_of_not_grantable {s : State} (h : s.journal.grantable .start = false) :
    exec .start s = .next s := by
  show execStart s = _
  unfold execStart
  split
  · rw [grantPlace_of_not_grantable h]
  · rfl

/-- Settles O41: the grant's effect part by part; a row whose request is not grantable leaves the state. -/
theorem integrityIsRecorded : Obligations.IntegrityIsRecorded := by
  refine ⟨fun s ref w d r hw hd hr => ?_, fun s ref hg => congrArg _ (if_pos hg), fun s ref i => ?_⟩
  · intro check u
    simp only [State.settle, State.settleIntegrity, hw, hd, hr, verified_eq]
    cases d <;> rfl
  · have waits {p : PlaceRequest} (h : s.journal.grantable p = false) :
        Host.Outcome.next (s.grantPlace p) = (.next s : Host.Outcome State Fault Refusal) :=
      congrArg _ (grantPlace_of_not_grantable h)
    exact ⟨waits, waits, waits, waits, waits, waits, exec_recoveryVoid_of_not_grantable, exec_start_of_not_grantable⟩

end Sys2Proof.Machine
end

section
/-! SUPPORT. A link reset (R173): what it does to one of its slots, the slots of the link one after the other, and what
its transfers leave in node memory (R72, R83, R168). -/

namespace Sys2Proof.Machine

/-! ### One slot -/

/-- The READ that a slot runs for a link that is up. -/
def State.runningRead (s : State) (ref : SlotRef) : Option ReadWork :=
  match s.slot ref with
  | some (.running _ (.read w)) => some w
  | _ => none

theorem runningRead_of_read {s : State} {ref : SlotRef} {h : Held} {w : ReadWork}
    (hs : s.slot ref = some (.running h (.read w))) : s.runningRead ref = some w := by
  rw [State.runningRead, hs]

theorem runningRead_of_no_read {s : State} {ref : SlotRef} (hs : ∀ h w, s.slot ref ≠ some (.running h (.read w))) :
    s.runningRead ref = none := by
  unfold State.runningRead
  split
  · next h w hw => exact absurd hw (hs h w)
  · rfl

/-- What is said of the READ a slot runs, and `d` for any other slot. -/
theorem match_runningRead {α : Type} (s : State) (ref : SlotRef) (f : ReadWork → α) (d : α) :
    (match s.slot ref with
      | some (.running _ (.read w)) => f w
      | _ => d) = ((s.runningRead ref).map f).getD d := by
  unfold State.runningRead
  cases s.slot ref with
  | none => rfl
  | some v =>
    cases v with
    | running h w => cases w <;> rfl
    | _ => rfl

/-- The extent of a READ that ends with the reset of its link: its FETCH waits, or its transfer is in progress (R72). -/
def State.endingRead (s : State) (ref : SlotRef) : Option Nat :=
  (s.runningRead ref).bind (fun w => if s.readWaits ref || w.dma.isSome then some w.ext else none)

/-- A slot after the reset of its link; `waits` says that the FETCH of its READ waits at the arbiter (R168, R72). -/
def Slot.afterReset (waits : Bool) : Slot → Slot
  | .running _ (.read w) => if waits || w.dma.isSome then .free else .detached (.read w)
  | .running _ (.verify w) => .detached (.verify w)
  | .detached w => .detached w
  | _ => .free

/-- The FETCH of a READ that one of the slots `is` runs: the reset of the link withdraws it (R83). -/
def State.withdraws (s : State) (n : Node) (is : List Nat) (op : MediaOp) : Bool :=
  is.any (fun i => op.requester == .read ⟨.node n, i⟩ && (s.runningRead ⟨.node n, i⟩).isSome)

/-- What the reset of link `n` does to its slots `is`, and to the FETCHes, readers and links by it. -/
structure SlotsReset (s : State) (n : Node) (is : List Nat) (t : State) : Prop where
  slot : ∀ r, t.slot r = if r.master = .node n ∧ r.index ∈ is then (s.slot r).map (Slot.afterReset (s.readWaits r))
    else s.slot r
  media : t.media = { s.media with waiting := s.media.waiting.filter (fun op => !s.withdraws n is op) }
  readers : ∀ k, t.readerCount k = s.readerCount k - is.countP (fun i => s.endingRead ⟨.node n, i⟩ == some k)
  msiEnabled : (t.link n).msiEnabled = (s.link n).msiEnabled
  length : (t.link n).slots.length = (s.link n).slots.length
  others : ∀ m, m ≠ n → t.link m = s.link m
  cport : t.cport = s.cport
  keys : t.et.keys = s.et.keys
  next : t.et.next = s.et.next

/-- Links, CPORT, keys and the next number are as they were. -/
structure LinksKept (s u : State) : Prop where
  link : u.link = s.link
  cport : u.cport = s.cport
  keys : u.et.keys = s.et.keys
  next : u.et.next = s.et.next

theorem LinksKept.refl (s : State) : LinksKept s s := ⟨rfl, rfl, rfl, rfl⟩

theorem link_congr {s u : State} (ha : u.linkA = s.linkA) (hb : u.linkB = s.linkB) : u.link = s.link := by
  funext n
  cases n
  · exact ha
  · exact hb

theorem LinksKept.of_et {s u : State} (ha : u.linkA = s.linkA) (hb : u.linkB = s.linkB) (hc : u.cport = s.cport)
    (he : u.et = s.et) : LinksKept s u := ⟨link_congr ha hb, hc, by rw [he], by rw [he]⟩

theorem linksKept_failFetch (s : State) (n : Nat) : LinksKept s (s.failFetch n) := by
  refine ⟨link_congr (by simp) (by simp), by simp, ?_, ?_⟩
  all_goals
    unfold State.failFetch
    split
    · simp
    · rfl

section
variable {s t u : State} {n : Node} {i : Nat} {is : List Nat}

theorem withdraws_of_read {op : MediaOp} {ref : SlotRef} (h : op.requester = .read ref) :
    s.withdraws n is op = (decide (ref.master = .node n ∧ ref.index ∈ is) && (s.runningRead ref).isSome) := by
  obtain ⟨m, j⟩ := ref
  rw [State.withdraws, Bool.eq_iff_iff, List.any_eq_true, h, Bool.and_eq_true, decide_eq_true_eq]
  constructor
  · rintro ⟨i, hi, hop⟩
    obtain ⟨he, hrun⟩ := Bool.and_eq_true_iff.1 hop
    cases beq_iff_eq.1 he
    exact ⟨⟨rfl, hi⟩, hrun⟩
  · rintro ⟨⟨rfl, hi⟩, hrun⟩
    exact ⟨j, hi, by simp [hrun]⟩

theorem withdraws_of_no_read {op : MediaOp} (h : ∀ ref, op.requester ≠ .read ref) : s.withdraws n is op = false := by
  simp [State.withdraws, h]

theorem withdraws_singleton (op : MediaOp) :
    s.withdraws n [i] op = (op.requester == .read ⟨.node n, i⟩ && (s.runningRead ⟨.node n, i⟩).isSome) := by
  simp [State.withdraws]

/-- A READ whose FETCH waits has it withdrawn (R83). -/
theorem filter_withdraws_of_running (h : (s.runningRead ⟨.node n, i⟩).isSome = true) :
    s.media.waiting.filter (fun op => !s.withdraws n [i] op) =
      s.media.waiting.filter (fun op => op.requester != .read ⟨.node n, i⟩) := by
  simp only [withdraws_singleton, h, Bool.and_true, bne]

/-- Nothing is withdrawn for a slot that runs no READ, or one whose FETCH does not wait. -/
theorem filter_withdraws_of_not_waiting
    (h : (s.runningRead ⟨.node n, i⟩).isSome = true → s.readWaits ⟨.node n, i⟩ = false) :
    s.media.waiting.filter (fun op => !s.withdraws n [i] op) = s.media.waiting := by
  refine List.filter_eq_self.2 fun op hop => ?_
  rw [withdraws_singleton, Bool.not_and, Bool.or_eq_true, Bool.not_eq_true', Bool.not_eq_true']
  cases hrun : (s.runningRead ⟨.node n, i⟩).isSome with
  | false => exact .inr rfl
  | true => exact .inl (by simpa using List.any_eq_false.1 (h hrun) op hop)

theorem countP_endingRead (k : Nat) :
    [i].countP (fun i => s.endingRead ⟨.node n, i⟩ == some k) =
      if s.endingRead ⟨.node n, i⟩ = some k then 1 else 0 := by
  simp [List.countP_cons]

/-- A slot is replaced by what the reset makes of it, on a state with the slots and keys of `s`. -/
theorem SlotsReset.setSlot {v x : Slot} (hs : s.slot ⟨.node n, i⟩ = some v)
    (hv : v.afterReset (s.readWaits ⟨.node n, i⟩) = x) (hu : LinksKept s u)
    (hm : u.media = { s.media with waiting := s.media.waiting.filter (fun op => !s.withdraws n [i] op) })
    (hr : ∀ k, u.readerCount k = s.readerCount k - if s.endingRead ⟨.node n, i⟩ = some k then 1 else 0) :
    SlotsReset s n [i] (u.setSlot ⟨.node n, i⟩ x) where
  slot r := by
    rw [State.slot_setSlot, State.slot_congr (congrFun hu.link .a) (congrFun hu.link .b) hu.cport]
    by_cases h : r = ⟨.node n, i⟩
    · subst h
      simp [hs, hv]
    · rw [if_neg h, if_neg]
      obtain ⟨m, j⟩ := r
      simpa using h
  media := by simpa using hm
  readers k := by
    rw [countP_endingRead, ← hr]
    simp [State.readerCount]
  msiEnabled := by simp [State.setSlot, hu.link]
  length := by simp [State.setSlot, hu.link]
  others m hmn := by simp [State.setSlot, State.link_withLink_other _ _ hmn, hu.link]
  cport := by simp [State.setSlot, hu.cport]
  keys := by simpa using hu.keys
  next := by simpa using hu.next

theorem readerCount_congr (h : u.readers = s.readers) : u.readerCount = s.readerCount := by
  funext k
  rw [State.readerCount, h]
  rfl

/-- One reader fewer, on a state with the readers of `s`. -/
theorem readerCount_dropped (h : u.readers = s.readers) (e k : Nat) :
    (u.dropReader e).readerCount k = s.readerCount k - if some e = some k then 1 else 0 := by
  rw [readerCount_dropReader, readerCount_congr h]
  by_cases hk : k = e
  · simp [hk]
  · simp [hk, Ne.symm hk]

theorem endingRead_of_read {h : Held} {w : ReadWork} {ref : SlotRef} (hs : s.slot ref = some (.running h (.read w))) :
    s.endingRead ref = if s.readWaits ref || w.dma.isSome then some w.ext else none := by
  rw [State.endingRead, runningRead_of_read hs]
  rfl

theorem endingRead_of_no_read {ref : SlotRef} (hs : ∀ h w, s.slot ref ≠ some (.running h (.read w))) :
    s.endingRead ref = none := by
  rw [State.endingRead, runningRead_of_no_read hs]
  rfl

theorem endingRead_beq (s : State) (ref : SlotRef) (k : Nat) : (s.endingRead ref == some k) =
    ((s.runningRead ref).map (fun w => w.ext == k && (s.readWaits ref || w.dma.isSome))).getD false := by
  rw [State.endingRead]
  cases s.runningRead ref with
  | none => rfl
  | some w =>
    simp only [Option.map_some, Option.getD_some, Option.bind_some]
    cases s.readWaits ref || w.dma.isSome <;> simp

/-- A READ that does not end has no FETCH waiting: none is withdrawn for its slot. -/
theorem media_of_not_ending (h : s.endingRead ⟨.node n, i⟩ = none) :
    s.media = { s.media with waiting := s.media.waiting.filter (fun op => !s.withdraws n [i] op) } := by
  rw [filter_withdraws_of_not_waiting fun hrun => ?_]
  obtain ⟨w, hw⟩ := Option.isSome_iff_exists.1 hrun
  rw [State.endingRead, hw, Option.bind_some] at h
  cases hwaits : s.readWaits ⟨.node n, i⟩ with
  | false => rfl
  | true => simp [hwaits] at h

/-- A slot is replaced, and no READ ends. -/
theorem SlotsReset.of_not_ending {v x : Slot} (hs : s.slot ⟨.node n, i⟩ = some v)
    (hv : v.afterReset (s.readWaits ⟨.node n, i⟩) = x) (hend : s.endingRead ⟨.node n, i⟩ = none)
    (hu : LinksKept s u) (hm : u.media = s.media) (hr : u.readers = s.readers) :
    SlotsReset s n [i] (u.setSlot ⟨.node n, i⟩ x) := by
  refine .setSlot hs hv hu (hm.trans (media_of_not_ending hend)) fun k => ?_
  simp [State.readerCount, hr, hend]

/-- A slot that is FREE or DETACHED, or no slot at all, stays as it is. -/
theorem SlotsReset.refl (hs : ∀ v, s.slot ⟨.node n, i⟩ = some v → v = .free ∨ ∃ w, v = .detached w) :
    SlotsReset s n [i] s := by
  have hend : s.endingRead ⟨.node n, i⟩ = none := endingRead_of_no_read fun h w hw => by
    simpa using hs _ hw
  refine ⟨fun r => ?_, media_of_not_ending hend, fun k => by simp [hend], rfl, rfl, fun _ _ => rfl, rfl, rfl, rfl⟩
  split
  · next h =>
    obtain rfl : r = ⟨.node n, i⟩ := by
      obtain ⟨m, j⟩ := r
      simpa using h
    cases hv : s.slot ⟨.node n, i⟩ with
    | none => rfl
    | some v => obtain rfl | ⟨w, rfl⟩ := hs v hv <;> rfl
  · rfl

/-- The reset of a slot, by the operation it holds. -/
theorem resetSlot_slotsReset (s : State) (n : Node) (i : Nat) : SlotsReset s n [i] (s.resetSlot ⟨.node n, i⟩) := by
  have no_read {v : Slot} (hs : s.slot ⟨.node n, i⟩ = some v) (hv : ∀ h w, v ≠ .running h (.read w)) :
      s.endingRead ⟨.node n, i⟩ = none :=
    endingRead_of_no_read fun h w hw => hv h w (Option.some.inj (hs.symm.trans hw))
  unfold State.resetSlot
  split
  case h_1 h w hs =>
    have hend := endingRead_of_read hs
    split
    · next hwaits =>
      have hext : s.endingRead ⟨.node n, i⟩ = some w.ext := hend.trans (if_pos (by simp [hwaits]))
      have hkept : LinksKept s ((s.withdrawRead ⟨.node n, i⟩).dropReader w.ext) :=
        .of_et (by simp) (by simp) (by simp) (by simp)
      refine .setSlot hs (by simp [Slot.afterReset, hwaits]) hkept ?_ fun k => ?_
      · rw [filter_withdraws_of_running (by rw [runningRead_of_read hs]; rfl)]
        simp [State.withdrawRead]
      · rw [hext]
        exact readerCount_dropped (by simp) w.ext k
    · next hwaits =>
      split
      · next hdma =>
        have hext : s.endingRead ⟨.node n, i⟩ = some w.ext := hend.trans (if_pos (by simp [hdma]))
        have hkept : LinksKept s (s.dropReader w.ext) := .of_et (by simp) (by simp) (by simp) (by simp)
        refine .setSlot hs (by simp [Slot.afterReset, hdma]) hkept ?_ fun k => ?_
        · rw [filter_withdraws_of_not_waiting fun _ => eq_false_of_ne_true hwaits]
          simp
        · rw [hext]
          exact readerCount_dropped rfl w.ext k
      · next hdma =>
        have hnone : s.endingRead ⟨.node n, i⟩ = none := hend.trans (if_neg (by simp [hwaits, hdma]))
        exact .of_not_ending hs (by simp [Slot.afterReset, hwaits, hdma]) hnone (.refl s) rfl rfl
  case h_2 hs | h_5 hs => exact .of_not_ending hs rfl (no_read hs nofun) (.refl s) rfl rfl
  case h_3 h w hs =>
    split
    · exact .of_not_ending hs rfl (no_read hs nofun) (linksKept_failFetch s _) (by simp) (by simp)
    · exact .of_not_ending hs rfl (no_read hs nofun) (.refl s) rfl rfl
  case h_4 h w hread hverify _ hs =>
    refine .of_not_ending hs ?_ (no_read hs fun _ x hx => hread x (Slot.running.inj hx).2) (.refl s) rfl rfl
    cases w with
    | read w => exact absurd rfl (hread w)
    | verify w => exact absurd rfl (hverify w)
    | _ => rfl
  case h_6 _ _ _ hrun hfin =>
    refine .refl fun v hv => ?_
    cases v with
    | free => exact .inl rfl
    | running h w => exact absurd hv (hrun h w)
    | finished h r => exact absurd hv (hfin h r)
    | detached w => exact .inr ⟨w, rfl⟩

/-! ### The slots one after the other -/

theorem SlotsReset.slot_other (a : SlotsReset s n [i] t) {r : SlotRef} (h : r ≠ ⟨.node n, i⟩) :
    t.slot r = s.slot r := by
  rw [a.slot, if_neg]
  obtain ⟨m, j⟩ := r
  simpa using h

/-- The FETCH of another slot's READ waits on (R83). -/
theorem SlotsReset.readWaits_other (a : SlotsReset s n [i] t) {r : SlotRef} (h : r ≠ ⟨.node n, i⟩) :
    t.readWaits r = s.readWaits r := by
  rw [State.readWaits, a.media, State.readWaits, List.any_filter, Bool.eq_iff_iff, List.any_eq_true, List.any_eq_true]
  refine exists_congr fun op => and_congr_right fun _ => ?_
  rw [withdraws_singleton, Bool.and_eq_true, and_iff_right_iff_imp, beq_iff_eq]
  intro hop
  simp [hop, h]

theorem SlotsReset.runningRead_other (a : SlotsReset s n [i] t) {r : SlotRef} (h : r ≠ ⟨.node n, i⟩) :
    t.runningRead r = s.runningRead r := by
  rw [State.runningRead, a.slot_other h]
  rfl

theorem SlotsReset.endingRead_other (a : SlotsReset s n [i] t) {r : SlotRef} (h : r ≠ ⟨.node n, i⟩) :
    t.endingRead r = s.endingRead r := by
  rw [State.endingRead, a.runningRead_other h, a.readWaits_other h]
  rfl

/-- The reset of one more slot before those reset after it. -/
theorem SlotsReset.cons (a : SlotsReset s n [i] t) (b : SlotsReset t n is u) (hi : i ∉ is) :
    SlotsReset s n (i :: is) u where
  slot r := by
    rw [b.slot]
    by_cases hr : r = ⟨.node n, i⟩
    · subst hr
      simp [hi, a.slot]
    · have hmem : r.master = .node n ∧ r.index ∈ i :: is ↔ r.master = .node n ∧ r.index ∈ is := by
        obtain ⟨m, j⟩ := r
        refine and_congr_right fun hm => ?_
        obtain rfl : m = .node n := hm
        simpa using fun hj => absurd (by rw [hj]) hr
      rw [a.slot_other hr, a.readWaits_other hr, if_congr hmem rfl rfl]
  media := by
    have hrest (op : MediaOp) : t.withdraws n is op = s.withdraws n is op := by
      rw [State.withdraws, State.withdraws, Bool.eq_iff_iff, List.any_eq_true, List.any_eq_true]
      refine exists_congr fun j => and_congr_right fun hj => ?_
      rw [a.runningRead_other fun e => hi ((SlotRef.mk.inj e).2 ▸ hj)]
    have hall (op : MediaOp) : s.withdraws n (i :: is) op = (s.withdraws n [i] op || s.withdraws n is op) := by
      simp [State.withdraws]
    rw [b.media, a.media]
    simp only [List.filter_filter, hrest, hall, Bool.not_or, Bool.and_comm]
  readers k := by
    have hrest : is.countP (fun j => t.endingRead ⟨.node n, j⟩ == some k) =
        is.countP (fun j => s.endingRead ⟨.node n, j⟩ == some k) :=
      List.countP_congr fun j hj => by rw [a.endingRead_other fun e => hi ((SlotRef.mk.inj e).2 ▸ hj)]
    rw [b.readers, a.readers, hrest, countP_endingRead, List.countP_cons, Nat.sub_sub, Nat.add_comm]
    simp only [beq_iff_eq]
  msiEnabled := b.msiEnabled.trans a.msiEnabled
  length := b.length.trans a.length
  others m hm := (b.others m hm).trans (a.others m hm)
  cport := b.cport.trans a.cport
  keys := b.keys.trans a.keys
  next := b.next.trans a.next

/-- The reset of a list of slots, each of them once. -/
theorem resetSlots_slotsReset (s : State) (n : Node) (i : Nat) (is : List Nat) (h : (i :: is).Nodup) :
    SlotsReset s n (i :: is) (((i :: is).map (fun i => (⟨.node n, i⟩ : SlotRef))).foldl State.resetSlot s) := by
  induction is generalizing s i with
  | nil => exact resetSlot_slotsReset s n i
  | cons j js ih =>
    obtain ⟨hi, hrest⟩ := List.nodup_cons.1 h
    exact (resetSlot_slotsReset s n i).cons (ih _ j hrest) hi

end

/-! ### The link itself -/

theorem linkSlots_reset (s : State) (n : Node) :
    SlotsReset s n (List.range 8) ((linkSlots n).foldl State.resetSlot s) :=
  resetSlots_slotsReset s n 0 [1, 2, 3, 4, 5, 6, 7] (by decide)

@[simp] theorem foldl_resetSlot_frame (l : List SlotRef) (s : State) :
    (l.foldl State.resetSlot s).phase = s.phase ∧
      (l.foldl State.resetSlot s).settings = s.settings ∧
      (l.foldl State.resetSlot s).clock = s.clock ∧
      (l.foldl State.resetSlot s).classes = s.classes ∧
      (l.foldl State.resetSlot s).holds = s.holds ∧
      (l.foldl State.resetSlot s).engine = s.engine ∧
      (l.foldl State.resetSlot s).journal = s.journal ∧
      (l.foldl State.resetSlot s).router = s.router := by
  induction l generalizing s with
  | nil => simp
  | cons a l ih => simpa using ih (s.resetSlot a)

theorem link_clearSet (s : State) (m : Master) : (s.clearSet m).link = s.link := link_congr (by simp) (by simp)

theorem pendingSet_clearSet (s : State) (m k : Master) :
    (s.clearSet m).pendingSet k = if k = m then [] else s.pendingSet k := by
  rcases m with (_ | _) | _ <;> rcases k with (_ | _) | _ <;> rfl

/-- What the reset of a link is once its slots have been reset. -/
theorem resetLink_eq (s : State) (n : Node) :
    let u := (linkSlots n).foldl State.resetSlot s
    let t := s.resetLink n
    t.link n = (u.link n).afterReset ((s.link n).cutTransfers (fun i => Config.placedBytes (s.freeCount + i))) ∧
      (∀ m, m ≠ n → t.link m = u.link m) ∧ t.cport = u.cport ∧ t.media = u.media ∧ t.et = u.et ∧
      t.readers = u.readers ∧ (∀ m, t.pendingSet m = if m = .node n then [] else u.pendingSet m) := by
  intro u t
  have hclear : t.link = ((u.withEngine { u.engine with queue := u.engine.queue.map (QueueEntry.orphan n) }).withLink n
      ((u.link n).afterReset ((s.link n).cutTransfers (fun i => Config.placedBytes (s.freeCount + i))))).link :=
    link_clearSet _ (.node n)
  refine ⟨?_, fun m hm => ?_, by simp [t, u, State.resetLink], by simp [t, u, State.resetLink],
    by simp [t, u, State.resetLink], by simp [t, u, State.resetLink], fun m => ?_⟩
  · rw [hclear, State.link_withLink_same]
  · rw [hclear, State.link_withLink_other _ _ hm]
    rfl
  · refine (pendingSet_clearSet _ (.node n) m).trans (if_congr Iff.rfl rfl (congrFun ?_ m))
    exact State.pendingSet_congr (by simp [u])

/-- The entries of the queue keep the slots of every other link and of CPORT (R141, R148). -/
theorem orphan_eq (n : Node) : QueueEntry.orphan n = fun e =>
    { e with slot := e.slot.filter (fun ref => decide (ref.master ≠ .node n)) } := by
  funext e
  simp only [QueueEntry.orphan, bne, beq_eq_decide, ← decide_not, ne_eq]

/-- What the reset of a link leaves as it is, but for the slot references of the queue. -/
theorem resetLink_frame (s : State) (n : Node) :
    (s.resetLink n).engine = { s.engine with queue := s.engine.queue.map (QueueEntry.orphan n) } ∧
      (s.resetLink n).clock = s.clock ∧
      (s.resetLink n).classes = s.classes ∧
      (s.resetLink n).holds = s.holds ∧
      (s.resetLink n).journal = s.journal ∧
      (s.resetLink n).phase = s.phase ∧
      (s.resetLink n).settings = s.settings := by
  simp [State.resetLink]

/-! ### The transfers that are cut short -/

/-- The READ whose transfer a slot runs. -/
def State.transferAt (s : State) (ref : SlotRef) : Option ReadWork := (s.slot ref).bind Slot.transfer

theorem transferAt_eq (s : State) (ref : SlotRef) :
    s.transferAt ref = (s.runningRead ref).bind (fun w => if w.dma.isSome then some w else none) := by
  unfold State.transferAt State.runningRead
  cases s.slot ref with
  | none => rfl
  | some v =>
    cases v with
    | running h w => cases w <;> rfl
    | _ => rfl

theorem transferAt_isSome (s : State) (ref : SlotRef) :
    (s.transferAt ref).isSome = ((s.runningRead ref).map (fun w => w.dma.isSome)).getD false := by
  rw [transferAt_eq]
  cases s.runningRead ref with
  | none => rfl
  | some w => cases h : w.dma <;> simp [h]

theorem transferAt_map {α : Type} (s : State) (ref : SlotRef) (f : ReadWork → α) (d : α) :
    ((s.transferAt ref).map f).getD d =
      ((s.runningRead ref).map (fun w => if w.dma.isSome then f w else d)).getD d := by
  rw [transferAt_eq]
  cases s.runningRead ref with
  | none => rfl
  | some w => cases h : w.dma <;> simp [h]

theorem moving_eq {s : State} {n : Node} (h : (s.link n).slots.length = 8) :
    (s.link n).moving = (List.range 8).any (fun i => (s.transferAt ⟨.node n, i⟩).isSome) := by
  rw [LinkState.moving, Bool.eq_iff_iff, List.any_eq_true, List.any_eq_true]
  constructor
  · rintro ⟨v, hv, ht⟩
    obtain ⟨i, hi, rfl⟩ := List.mem_iff_getElem.1 hv
    refine ⟨i, List.mem_range.2 (h ▸ hi), ?_⟩
    simpa [State.transferAt, State.slot, State.slots, hi] using ht
  · rintro ⟨i, _, ht⟩
    obtain ⟨w, hw⟩ := Option.isSome_iff_exists.1 ht
    obtain ⟨v, hv, hvw⟩ := Option.bind_eq_some_iff.1 hw
    exact ⟨v, List.mem_of_getElem? hv, by rw [hvw]; rfl⟩

theorem cutTransfers_eq {s : State} {n : Node} (h : (s.link n).slots.length = 8) (placed : Nat → Nat) :
    (s.link n).cutTransfers placed =
      if (List.range 8).any (fun i => (s.transferAt ⟨.node n, i⟩).isSome) then
        ((List.range 8).map (fun i => ((s.transferAt ⟨.node n, i⟩).map
          (fun w => (dmaCells w.fragments w.buffer).take (placed i))).getD [])).flatten
      else (s.link n).dmaOut := by
  rw [LinkState.cutTransfers, moving_eq h]
  refine if_congr Iff.rfl (congrArg _ (List.ext_getElem (by simp [h]) fun i hi _ => ?_)) rfl
  have hi : i < (s.link n).slots.length := by simpa using hi
  have ht : s.transferAt ⟨.node n, i⟩ = (s.link n).slots[i].transfer := by
    simp [State.transferAt, State.slot, State.slots, hi]
  rw [List.getElem_mapIdx, List.getElem_map, List.getElem_range, ht]
  cases (s.link n).slots[i].transfer <;> rfl

/-- Settles O9: the slots one after the other, then the link's own items, the orphaned entries and the pending set. -/
theorem linkResetEmptiesTheLink : Obligations.LinkResetEmptiesTheLink := by
  intro s n hlive hlen ends moving cells
  have a := linkSlots_reset s n
  obtain ⟨hlink, hothers, hcport, hmedia, het, hreaders, hsets⟩ := resetLink_eq s n
  obtain ⟨hengine, hclock, hclasses, hholds, hjournal, hphase, hsettings⟩ := resetLink_frame s n
  have hends (i k : Nat) : ends i k = (s.endingRead ⟨.node n, i⟩ == some k) :=
    (match_runningRead s ⟨.node n, i⟩ _ false).trans (endingRead_beq s _ k).symm
  have hmoving (i : Nat) : moving i = (s.transferAt ⟨.node n, i⟩).isSome :=
    (match_runningRead s ⟨.node n, i⟩ _ false).trans (transferAt_isSome s _).symm
  have hcells (placed : Nat → Nat) (i : Nat) : cells placed i = ((s.transferAt ⟨.node n, i⟩).map
      (fun w => (dmaCells w.fragments w.buffer).take (placed i))).getD [] :=
    (match_runningRead s ⟨.node n, i⟩ _ []).trans (transferAt_map s _ _ []).symm
  have hslots : ((s.resetLink n).link n).slots = (((linkSlots n).foldl State.resetSlot s).link n).slots := by
    rw [hlink]
    rfl
  refine ⟨s.resetLink n, fun i => Config.placedBytes (s.freeCount + i), if_pos hlive, congrArg LinkState.up hlink,
    (congrArg LinkState.msiEnabled hlink).trans a.msiEnabled, congrArg LinkState.mark hlink,
    congrArg LinkState.window hlink, congrArg LinkState.receipt hlink, congrArg LinkState.base hlink,
    congrArg LinkState.limit hlink, congrArg LinkState.spacing hlink,
    (congrArg List.length hslots).trans (a.length.trans hlen), fun i v hv => ?_,
    (hsets _).trans (if_pos rfl), fun m hm => ?_, fun m hm => (hothers m hm).trans (a.others m hm),
    hcport.trans a.cport, ?_, hengine.trans (by rw [orphan_eq]), hclock, hclasses, hholds, hjournal, hphase, hsettings,
    (congrArg _ het).trans a.keys, (congrArg _ het).trans a.next, fun k => ?_, ?_⟩
  · have hi : i ∈ List.range 8 := by
      rw [List.mem_range, ← hlen]
      exact (List.getElem?_eq_some_iff.1 hv).1
    have hslot : (s.resetLink n).slot ⟨.node n, i⟩ = ((linkSlots n).foldl State.resetSlot s).slot ⟨.node n, i⟩ :=
      congrArg (·[i]?) hslots
    rw [hslot, a.slot, if_pos ⟨rfl, hi⟩, hv]
    refine congrArg some ?_
    cases v with
    | running h w =>
      cases w with
      | read w => exact if_congr (by simp) rfl rfl
      | _ => rfl
    | _ => rfl
  · rw [hsets, if_neg hm]
    exact congrFun (State.pendingSet_congr (by simp)) m
  · rw [hmedia, a.media]
    refine congrArg (fun l => { s.media with waiting := l }) (List.filter_congr fun op _ => ?_)
    split
    · next ref hreq =>
      rw [withdraws_of_read hreq]
      refine .trans ?_ (congrArg (decide (ref.master ≠ .node n ∨ 8 ≤ ref.index) || ·)
        (match_runningRead s ref (fun _ => false) true)).symm
      by_cases hi : ref.index < 8
      · cases s.runningRead ref <;> simp [hi, Nat.not_le.2 hi]
      · simp [hi, Nat.not_lt.1 hi]
    · next hno => rw [withdraws_of_no_read hno, Bool.not_false]
  · rw [readerCount_congr hreaders, a.readers, List.countP_eq_length_filter]
    simp only [hends]
  · have hcut := cutTransfers_eq hlen (fun i => Config.placedBytes (s.freeCount + i))
    rw [← funext hmoving, ← funext (hcells _)] at hcut
    exact (congrArg LinkState.dmaOut hlink).trans hcut

end Sys2Proof.Machine
end

section
/-! SUPPORT. The Media Channel: whom a grant chooses (R80 to R82), what it changes beside the command (R79 to R85), and how
long an answer of the array is waited for (R75, R86). -/

namespace Sys2Proof.Machine

/-! ### The choice of a grant -/

/-- The first rank: a JOURNAL_WRITE (R80). -/
theorem choose_of_page {m : Media} {op : MediaOp} (mode : ArbMode) (h : m.waiting.find? (·.isPage) = some op) :
    m.choose mode = some op := by
  simp only [Media.choose, h]

/-- The second rank: the earliest operation of the first origin in order that has one (R80). -/
theorem choose_of_origin {m : Media} {mode : ArbMode} {before after : List Master} {o : Master} {op : MediaOp}
    (hp : m.waiting.find? (·.isPage) = none) (ho : m.order mode = before ++ o :: after)
    (hb : ∀ x ∈ before, ∀ y ∈ m.waiting, y.origin ≠ some x)
    (hf : m.waiting.find? (fun y => y.origin == some o) = some op) : m.choose mode = some op := by
  have none_before : before.findSome? (fun x => m.waiting.find? (fun y => y.origin == some x)) = none := by
    simpa [List.findSome?_eq_none_iff] using hb
  simp only [Media.choose, hp, ho, List.findSome?_append, none_before, Option.none_or, List.findSome?_cons, hf]

/-- The last rank: a SCRUB (R80). -/
theorem choose_of_no_origin {m : Media} (mode : ArbMode) (hp : m.waiting.find? (·.isPage) = none)
    (hn : ∀ y ∈ m.waiting, y.origin = none) : m.choose mode = m.waiting.find? (·.isScrub) := by
  have no_origin : (m.order mode).findSome? (fun o => m.waiting.find? (fun op => op.origin == some o)) = none := by
    simp only [List.findSome?_eq_none_iff, List.find?_eq_none]
    intro o _ y hy
    simp [hn y hy]
  simp only [Media.choose, hp, no_origin]

/-- A grant without origin, and any in FIXED mode, leave the turn order (R82). -/
theorem turned_of_stays {m : Media} {mode : ArbMode} {op : MediaOp} (h : op.origin = none ∨ mode = .fixed) :
    m.turned mode op = m.turn := by
  rcases h with h | h
  · cases mode <;> simp [Media.turned, h]
  · simp [Media.turned, h]

/-- In ROTATING mode the origin granted goes to the back (R82). -/
theorem turned_of_rotating {m : Media} {before after : List Master} {o : Master} {op : MediaOp}
    (ht : m.turn = before ++ o :: after) (hb : o ∉ before) (ho : op.origin = some o) :
    m.turned .rotating op = before ++ after ++ [o] := by
  simp [Media.turned, ho, ht, List.erase_append_right _ hb]

/-- Settles O26: placing, granting and completing by their definitions, and the choice rank by rank. -/
theorem grantsFollowRankAndTurn : Obligations.GrantsFollowRankAndTurn := by
  refine ⟨fun s op h => ?_, fun s op hc hw => ?_, fun s => ⟨rfl, fun hn => ?_, fun op hs => ?_⟩, fun m mode =>
    ⟨fun op hp => ⟨choose_of_page mode hp, fun ho => turned_of_stays (.inl ho)⟩,
      fun hp before after o op hm hb hf => ?_, fun hp hn => ?_⟩⟩
  · have busy : ¬ (s.media.channel.isNone && s.media.waiting.isEmpty) = true := by
      rcases h with h | h
      · simp [Option.isNone_eq_false_iff.2 h]
      · simp [h]
    exact if_neg busy
  · simp only [State.place, hc, hw, Option.isNone_none, List.isEmpty_nil, Bool.and_self, if_true, List.nil_append]
    rfl
  · simp only [State.grant, hn]
  · simp only [State.grant, hs]
    rfl
  · have order : m.order mode = before ++ o :: after := by cases mode <;> exact hm
    have origin : op.origin = some o := by simpa using List.find?_some hf
    refine ⟨choose_of_origin hp order hb hf, fun h => turned_of_stays (.inr h), fun h ho => ?_⟩
    subst h
    exact turned_of_rotating order ho origin
  · rw [choose_of_no_origin mode hp hn]
    refine ⟨fun x hx => by simpa using List.find?_some hx, fun y hy hs => ?_⟩
    exact List.find?_isSome.2 ⟨y, hy, hs⟩

/-! ### What a grant changes -/

/-- Settles O27: `Aside` of each operation, and the frames of Laws/Frames.lean. -/
theorem grantsChangeNothingElse : Obligations.GrantsChangeNothingElse := by
  refine fun s op => ⟨.grant s, .place s op, .complete s, .judgePage s, fun t ht => ?_⟩
  rcases ht with rfl | rfl | rfl | rfl
  all_goals simp

/-! ### The answers of the array -/

/-- From the 60th tick after the issue no answer counts, and at a FREE channel none does (R75; log 12). -/
theorem answering_of_late {s : State} (h : ∀ f, s.media.channel = some f → f.issued + 60 ≤ s.clock.tick) :
    s.answering = none := by
  unfold State.answering
  split
  · next f hf => exact if_neg (Nat.not_lt.2 (h f hf))
  · rfl

/-- The operation in flight, and whether its answer still counts (R75, R76). -/
theorem answering_of_flight {s : State} {op : MediaOp} {issued : Nat} (h : s.media.channel = some ⟨op, issued⟩) :
    s.answering = if issued + 60 ≤ s.clock.tick then none else some op := by
  by_cases late : issued + 60 ≤ s.clock.tick
  · rw [if_pos late]
    exact answering_of_late fun f hf => by rw [h] at hf; cases hf; exact late
  · simp only [State.answering, h, if_neg late]
    exact if_pos (Nat.not_le.1 late)

/-- The answer of the array with MEDIA_ERROR to an operation (R86). -/
def Requester.errorAnswer : Requester → Instr
  | .append _ => .appendProgramMediaError
  | .trailer _ => .trailerMediaError
  | .read _ => .readFetchMediaError
  | .verify _ => .verifyFetchMediaError
  | .journalRead _ => .journalReadFetchDone none
  | .scrub _ => .scrubMediaError
  | .journalWrite _ => .journalWriteMediaError

/-- An answer with MEDIA_ERROR that counts ends the operation as the answer limit does (R75, R86). -/
theorem exec_errorAnswer {s : State} {op : MediaOp} (h : s.answering = some op) :
    exec op.requester.errorAnswer s = .next (s.mediaError op).complete := by
  obtain ⟨requester, origin, first, count⟩ := op
  cases requester with
  | append i => show execAppendProgramMediaError s = _; simp only [execAppendProgramMediaError, h]; rfl
  | trailer i => show execTrailerMediaError s = _; simp only [execTrailerMediaError, h]; rfl
  | read ref => show execReadFetchMediaError s = _; simp only [execReadFetchMediaError, h]; rfl
  | verify ref => show execVerifyFetchMediaError s = _; simp only [execVerifyFetchMediaError, h]; rfl
  | journalRead ref => show execJournalReadFetchDone none s = _; simp only [execJournalReadFetchDone, h]; rfl
  | scrub n => show execScrubMediaError s = _; simp only [execScrubMediaError, h]; rfl
  | journalWrite k => show execJournalWriteMediaError s = _; simp only [execJournalWriteMediaError, h]; rfl

/-- The commands that are answers of the array (R75). -/
def arrayAnswers (data : List Byte) (page : Option (List Byte)) : List Instr :=
  [.appendProgramOk, .appendProgramMediaError, .trailerOk, .trailerMediaError, .readFetchOk data, .readFetchMediaError,
    .verifyFetchOk data, .verifyFetchMediaError, .journalReadFetchDone page, .scrubCompleteOk, .scrubMediaError,
    .journalWriteOk, .journalWriteMediaError]

/-- An answer that does not count changes nothing (R75; log 12). -/
theorem exec_answer_of_none {s : State} (h : s.answering = none) (data : List Byte) (page : Option (List Byte)) :
    ∀ c ∈ arrayAnswers data page, exec c s = .next s := by
  simp only [arrayAnswers, List.forall_mem_cons, List.not_mem_nil, false_implies, implies_true, exec,
    execAppendProgramOk, execAppendProgramMediaError, execTrailerOk, execTrailerMediaError, execReadFetchOk,
    execReadFetchMediaError, execVerifyFetchOk, execVerifyFetchMediaError, execJournalReadFetchDone, execScrubCompleteOk,
    execScrubMediaError, execJournalWriteOk, execJournalWriteMediaError, h, and_self]

/-- Settles O42: an answer counts exactly while `State.answering` names its operation. -/
theorem mediaAnswersAreWaitedFor : Obligations.MediaAnswersAreWaitedFor := by
  refine ⟨fun s h data page => exec_answer_of_none (answering_of_late h) data page, fun s op issued h => ?_⟩
  have limit : exec .mediaAnswerLimit s =
      .next (if issued + 60 ≤ s.clock.tick then (s.mediaError op).complete else s) := by
    show execMediaAnswerLimit s = _
    simp only [execMediaAnswerLimit, h]
    exact (apply_ite Host.Outcome.next _ _ _).symm
  have answer : exec op.requester.errorAnswer s =
      .next (if issued + 60 ≤ s.clock.tick then s else (s.mediaError op).complete) := by
    have ha := answering_of_flight h
    split at ha
    · next late =>
      rw [if_pos late]
      refine exec_answer_of_none ha [] none _ ?_
      cases op.requester <;> simp [arrayAnswers, Requester.errorAnswer]
    · next late => rw [if_neg late, exec_errorAnswer ha]
  obtain ⟨requester, origin, first, count⟩ := op
  cases requester <;> exact ⟨limit, answer⟩

end Sys2Proof.Machine
end

section
/-! SUPPORT. Which steps may begin a scrub. `NoneBegun s t` says that none begins between `s` and `t`, `Checked s t` that each
one begun passes the issue-time check in `t`, and `Guarded s t` moreover that whoever passed the check in `s` and is at
SCRUBBING in `t` passes it still (R7, R116, R124, R143). A command changes clock, classes, holds or floors before it grants
anything: it is a `NoneBegun` step followed by `Guarded` ones, and so `Checked`. -/

namespace Sys2Proof.Machine

/-! ### The three relations -/

/-- No scrub begins between `s` and `t`. -/
def NoneBegun (s t : State) : Prop := ∀ n, t.scrubbing n → s.scrubbing n

/-- Every scrub begun between `s` and `t` passes the issue-time check in `t`. -/
def Checked (s t : State) : Prop := ∀ n, t.scrubbing n → s.scrubbing n ∨ t.mayScrub n = true

/-- Every scrub begun between `s` and `t` passes the issue-time check in `t`, and so does every extent at SCRUBBING in `t` that
passed it in `s`. -/
structure Guarded (s t : State) : Prop where
  checked : Checked s t
  kept : ∀ n, t.scrubbing n → s.mayScrub n = true → t.mayScrub n = true

variable {s t u : State}

theorem NoneBegun.trans (a : NoneBegun s t) (b : NoneBegun t u) : NoneBegun s u := fun n h => a n (b n h)

theorem NoneBegun.checked (a : NoneBegun s t) : Checked s t := fun n h => .inl (a n h)

theorem NoneBegun.of_records (h : t.et.records = s.et.records) : NoneBegun s t := fun n ⟨r, hr, hs⟩ =>
  ⟨r, by rw [← State.extent_congr h]; exact hr, hs⟩

theorem Checked.after (a : NoneBegun s t) (b : Checked t u) : Checked s u := fun n h => (b n h).imp_left (a n)

theorem Checked.before (a : Checked s t) (b : Guarded t u) : Checked s u := fun n h => by
  rcases b.checked n h with ht | hu
  · exact (a n ht).imp_right (b.kept n h)
  · exact .inr hu

theorem Guarded.refl (s : State) : Guarded s s := ⟨fun _ h => .inl h, fun _ _ h => h⟩

theorem Guarded.trans (a : Guarded s t) (b : Guarded t u) : Guarded s u where
  checked := a.checked.before b
  kept n h hs := by
    rcases b.checked n h with ht | hu
    · exact b.kept n h (a.kept n ht hs)
    · exact hu

theorem Guarded.foldl {α : Type} {f : State → α → State} (hf : ∀ s a, Guarded s (f s a)) (l : List α) (s : State) :
    Guarded s (l.foldl f s) := by
  induction l generalizing s with
  | nil => exact .refl s
  | cons a l ih => exact (hf s a).trans (ih _)

/-! ### What the issue-time check reads -/

/-- Archive seconds, classes and holds are as they were. -/
@[simp] def State.SameRules (s t : State) : Prop :=
  t.clock.seconds = s.clock.seconds ∧ t.classes = s.classes ∧ t.holds = s.holds

/-- Two records are one to the issue-time check (R115, R116, R124). -/
structure Extent.Judged (a b : Extent) : Prop where
  number : b.number = a.number
  state : b.state = a.state
  cls : b.cls = a.cls
  group : b.group = a.group
  commitSecond : b.commitSecond = a.commitSecond
  floor : b.floor = a.floor

theorem Extent.Judged.refl (a : Extent) : a.Judged a := ⟨rfl, rfl, rfl, rfl, rfl, rfl⟩

/-- Under the same rules, and with a record that is the same to it, the check answers the same. -/
theorem mayScrub_congr {n : Nat} {a b : Extent} (rules : s.SameRules t) (hs : s.extent n = some a)
    (ht : t.extent n = some b) (same : a.Judged b) : t.mayScrub n = s.mayScrub n := by
  obtain ⟨seconds, classes, holds⟩ := rules
  have expiry : t.expiry b = s.expiry a := by
    rw [State.expiry, State.expiry, State.classEntry, State.classEntry, expiryDay, expiryDay, Extent.commitDay,
      Extent.commitDay, classes, same.cls, same.commitSecond, same.floor]
  have expired : t.expired b = s.expired a := by
    rw [State.expired, State.expired, State.day, State.day, expiry, seconds]
  have covers (c : Scope) : c.covers b = c.covers a := by
    simp only [Scope.covers, Extent.retained, Extent.commitDay, same.number, same.state, same.group, same.commitSecond]
  simp only [State.mayScrub, hs, ht, State.isHeld, expired, covers, holds]

/-- Under the same rules, a step is guarded in which each record at SCRUBBING was there before, and the same to the check. -/
theorem Guarded.of_extents (rules : s.SameRules t) (h : ∀ n b, t.extent n = some b → b.isScrubbing = true →
    ∃ a, s.extent n = some a ∧ a.isScrubbing = true ∧ a.Judged b) : Guarded s t where
  checked := fun n ⟨b, hb, sb⟩ => by
    obtain ⟨a, ha, sa, _⟩ := h n b hb sb
    exact .inl ⟨a, ha, sa⟩
  kept := fun n ⟨b, hb, sb⟩ hs => by
    obtain ⟨a, ha, _, same⟩ := h n b hb sb
    rw [mayScrub_congr rules ha hb same]
    exact hs

/-- A step that leaves the records and the rules alone. -/
theorem Guarded.frame (h : t.et.records = s.et.records ∧ s.SameRules t) : Guarded s t :=
  .of_extents h.2 fun n b hb sb => ⟨b, by rw [← State.extent_congr h.1]; exact hb, sb, .refl b⟩

theorem guarded_setStage (s : State) (g : Stage) : Guarded s (s.setStage g) := .frame (by simp)

theorem guarded_leaveQueue (s : State) (e : QueueEntry) (x : Exit) : Guarded s (s.leaveQueue e x) := .frame (by simp)

theorem guarded_record (s : State) (o : Origin) (x : Subject) : Guarded s (s.record o x) := .frame (by simp)

theorem guarded_raise (s : State) (c : EventClass) (m : Option Master) : Guarded s (s.raise c m) := .frame (by simp)

theorem guarded_dropReader (s : State) (n : Nat) : Guarded s (s.dropReader n) := .frame (by simp)

theorem guarded_setSlot (s : State) (ref : SlotRef) (v : Slot) : Guarded s (s.setSlot ref v) := .frame (by simp)

theorem guarded_endSlot (s : State) (ref : SlotRef) (r : Result) : Guarded s (s.endSlot ref r) := .frame (by simp)

theorem guarded_endWrite (s : State) (r : Extent) (x : Result) : Guarded s (s.endWrite r x) := .frame (by simp)

theorem guarded_setUnit (s : State) (k : Nat) (x : Staging) (c : Timer) : Guarded s (s.setUnit k x c) := .frame (by simp)

/-! ### Changes of one record -/

/-- A change of a record that brings none to SCRUBBING, and does not show in the check of one that is there. -/
structure Extent.Quiet (f : Extent → Extent) : Prop where
  number : ∀ r, (f r).number = r.number
  judged : ∀ r, (f r).isScrubbing = true → r.isScrubbing = true ∧ r.Judged (f r)

theorem Guarded.modExtent (s : State) (k : Nat) {f : Extent → Extent} (hf : Extent.Quiet f) :
    Guarded s (s.modExtent k f) := by
  refine .of_extents (by simp) fun n b hb sb => ?_
  rw [State.extent_modExtent s k hf.number, Option.map_eq_some_iff] at hb
  obtain ⟨a, ha, rfl⟩ := hb
  split at sb
  · next h => rw [if_pos h]; exact ⟨a, ha, hf.judged a sb⟩
  · next h => rw [if_neg h]; exact ⟨a, ha, sb, .refl a⟩

/-- A change is quiet that acts under a condition, and then leaves a record outside SCRUBBING. -/
theorem quiet_ite {c : Extent → Prop} [DecidablePred c] {g : Extent → Extent} (hn : ∀ r, (g r).number = r.number)
    (hg : ∀ r, c r → (g r).isScrubbing = false) : Extent.Quiet (fun r => if c r then g r else r) where
  number r := by split <;> simp [hn]
  judged r h := by
    by_cases hc : c r
    · rw [if_pos hc, hg r hc] at h; cases h
    · rw [if_neg hc] at h ⊢; exact ⟨h, .refl r⟩

theorem quiet_beginAppend : Extent.Quiet Extent.beginAppend :=
  quiet_ite (fun _ => rfl) fun r h => by simp_all [Extent.isScrubbing, Extent.quietOpen]

theorem quiet_endFetch (tick : Nat) : Extent.Quiet (Extent.endFetch tick) :=
  quiet_ite (fun _ => rfl) fun r h => by simp_all [Extent.isScrubbing]

theorem quiet_appended (blocks tick : Nat) (data : List Byte) : Extent.Quiet (Extent.appended blocks tick data) :=
  quiet_ite (fun _ => rfl) fun r h => by simp_all [Extent.isScrubbing]

theorem quiet_closing : Extent.Quiet Extent.closing := quiet_ite (fun _ => rfl) fun _ _ => rfl

theorem quiet_commit (second : Nat) (clock : ClockState) : Extent.Quiet (Extent.commit second clock) :=
  quiet_ite (fun _ => rfl) fun _ _ => rfl

theorem quiet_void (cause : VoidCause) (seq : Option Nat) : Extent.Quiet (Extent.void cause seq) :=
  quiet_ite (fun _ => rfl) fun _ _ => rfl

theorem quiet_queue : Extent.Quiet Extent.queue := quiet_ite (fun _ => rfl) fun _ _ => rfl

theorem quiet_headTaken : Extent.Quiet Extent.headTaken :=
  quiet_ite (fun _ => rfl) fun r _ => by simp [Extent.isScrubbing]

theorem quiet_returned : Extent.Quiet Extent.returned := quiet_ite (fun _ => rfl) fun _ _ => rfl

theorem quiet_scrubFailed : Extent.Quiet Extent.scrubFailed :=
  quiet_ite (fun _ => rfl) fun r _ => by simp [Extent.isScrubbing]

theorem quiet_release (second : Nat) (seq : Option Nat) : Extent.Quiet (Extent.release second seq) :=
  quiet_ite (fun _ => rfl) fun _ _ => rfl

theorem quiet_failDisposal : Extent.Quiet Extent.failDisposal := quiet_ite (fun _ => rfl) fun _ _ => rfl

/-- A VERIFY ends without a change that the issue-time check sees (R3). -/
theorem quiet_verified (x : Integrity) (second : Nat) : Extent.Quiet (Extent.verified x second) where
  number r := by unfold Extent.verified; split <;> rfl
  judged r h := by
    unfold Extent.verified at h ⊢
    split at h
    · next hr => rw [if_pos hr]; exact ⟨h, rfl, rfl, rfl, rfl, rfl, rfl⟩
    · next hr => rw [if_neg hr]; exact ⟨h, .refl r⟩

/-! ### The disposal queue and the issue of operations -/

theorem guarded_returnEntry (s : State) (e : QueueEntry) : Guarded s (s.returnEntry e) := by
  unfold State.returnEntry
  split
  · exact (Guarded.modExtent s _ quiet_returned).trans (guarded_leaveQueue _ _ _)
  · exact .refl s

theorem guarded_returnHead (s : State) : Guarded s s.returnHead := by
  unfold State.returnHead
  split
  · exact .refl s
  · exact (guarded_returnEntry s _).trans (guarded_setStage _ _)

theorem guarded_returnQueue (s : State) : Guarded s s.returnQueue := by
  unfold State.returnQueue
  split
  · exact .foldl guarded_returnEntry _ _
  · exact .foldl guarded_returnEntry _ _
  · exact (Guarded.frame (t := s.withMedia _) (by simp)).trans
      ((Guarded.foldl guarded_returnEntry _ _).trans (guarded_setStage _ _))

theorem guarded_exhaust (s : State) : Guarded s s.exhaust :=
  (Guarded.frame (t := s.failSplit _) (by simp)).trans (guarded_returnQueue _)

theorem guarded_issuePage (s : State) (op : MediaOp) : Guarded s (s.issuePage op) := by
  unfold State.issuePage
  dsimp only
  split
  · refine Guarded.trans (.frame ?_) (guarded_exhaust _)
    split <;> simp
  · refine .frame ?_
    split <;> simp

theorem scrubIssued_judged (r : Extent) : r.Judged r.scrubIssued := by
  unfold Extent.scrubIssued
  split
  · exact ⟨rfl, rfl, rfl, rfl, rfl, rfl⟩
  · exact .refl r

/-- The one place where a scrub begins: the check is made of the extent, and its answer stands after the issue (R84, R143). -/
theorem guarded_scrubIssued {n : Nat} (h : s.mayScrub n = true) : Guarded s (s.modExtent n Extent.scrubIssued) := by
  have look (m : Nat) := State.extent_modExtent s n Extent.scrubIssued_number m
  have issued : (s.modExtent n Extent.scrubIssued).mayScrub n = true := by
    cases hr : s.extent n with
    | none => simp [State.mayScrub, hr] at h
    | some r =>
      rw [mayScrub_congr (by simp) hr (State.extent_modExtent_same s Extent.scrubIssued_number hr) (scrubIssued_judged r)]
      exact h
  have other (m : Nat) (hm : m ≠ n) : (s.modExtent n Extent.scrubIssued).extent m = s.extent m :=
    State.extent_modExtent_other s Extent.scrubIssued_number hm
  constructor
  · rintro m ⟨r, hr, hs⟩
    by_cases hm : m = n
    · exact .inr (hm ▸ issued)
    · exact .inl ⟨r, other m hm ▸ hr, hs⟩
  · rintro m ⟨r, hr, hs⟩ ha
    by_cases hm : m = n
    · exact hm ▸ issued
    · rw [mayScrub_congr (by simp) (other m hm ▸ hr) hr (.refl r)]
      exact ha

theorem guarded_issueScrub (s : State) (op : MediaOp) (n : Nat) : Guarded s (s.issueScrub op n) := by
  unfold State.issueScrub
  split
  · next h =>
    exact (Guarded.frame (t := s.fly op) (by simp)).trans
      ((guarded_scrubIssued (s := s.fly op) h).trans (guarded_setStage _ _))
  · exact guarded_returnHead s

theorem guarded_issue (s : State) (op : MediaOp) : Guarded s (s.issue op) := by
  unfold State.issue
  split
  · exact .frame (by simp)
  · exact .frame (by simp)
  · exact .frame (by simp)
  · exact .frame (by simp)
  · exact .frame (by simp)
  · exact guarded_issueScrub s op _
  · exact guarded_issuePage s op

/-! ### Placing and granting -/

theorem guarded_grant (s : State) : Guarded s s.grant := by
  unfold State.grant
  split
  · exact .refl s
  · exact (Guarded.frame (t := s.withMedia _) (by simp)).trans (guarded_issue _ _)

theorem guarded_place (s : State) (op : MediaOp) : Guarded s (s.place op) := by
  unfold State.place
  dsimp only
  split
  · exact (Guarded.frame (t := s.withMedia _) (by simp)).trans (guarded_grant _)
  · exact .frame (by simp)

theorem guarded_complete (s : State) : Guarded s s.complete :=
  (Guarded.frame (t := s.withMedia _) (by simp)).trans (guarded_grant _)

theorem guarded_judgePage (s : State) : Guarded s s.judgePage := by
  rcases s.judgePage_cases with h | ⟨_, h⟩ <;> rw [h]
  · exact .refl s
  · exact guarded_place s _

theorem guarded_judgeSince (t s : State) : Guarded t (t.judgeSince s) := by
  rcases t.judgeSince_cases s with h | h <;> rw [h]
  · exact .refl t
  · exact guarded_judgePage t

theorem guarded_recordChange (s : State) (before : ClockState) : Guarded s (s.recordChange before) := by
  unfold State.recordChange
  split
  · exact .frame (by simp)
  · split
    · exact (Guarded.frame (t := s.enter _ _) (by simp)).trans (guarded_judgePage _)
    · split
      · exact .frame (by simp)
      · exact .frame (by simp)

/-- A change of clock state that leaves archive seconds alone (R103). -/
theorem guarded_changeClock (s : State) (c : Clock) (h : c.seconds = s.clock.seconds) : Guarded s (s.changeClock c) := by
  unfold State.changeClock
  split
  · exact .frame (by simpa using h)
  · exact (Guarded.frame (t := (s.withClock c).raise .clockState none) (by simpa using h)).trans (guarded_recordChange _ _)

/-! ### What is done at the grant of a place -/

theorem guarded_voidExtent (s : State) (r : Extent) (o : Origin) (cause : VoidCause) :
    Guarded s (s.voidExtent r o cause) := by
  unfold State.voidExtent
  split
  · exact (guarded_record s o (r.voidSubject cause)).trans
      ((Guarded.modExtent _ r.number (quiet_void cause s.journal.nextPlace)).trans (.frame (by simp)))
  · exact .refl s

theorem guarded_settleMediaFault (s : State) (k : Nat) : Guarded s (s.settleMediaFault k) := by
  unfold State.settleMediaFault
  split
  · exact .refl s
  · exact (guarded_voidExtent s _ _ _).trans (guarded_endWrite _ _ _)

theorem guarded_settleOpenTimeout (s : State) (k : Nat) : Guarded s (s.settleOpenTimeout k) := by
  unfold State.settleOpenTimeout
  split
  · exact .refl s
  · exact (guarded_voidExtent s _ _ _).trans (guarded_raise _ _ _)

theorem guarded_settleRecovery (s : State) (n : Nat) : Guarded s (s.settleRecovery n) := by
  unfold State.settleRecovery
  split
  · exact .refl s
  · next r _ => exact (guarded_voidExtent s r .device .interrupted).trans (.frame (by simp))

theorem guarded_settleIntegrity (s : State) (ref : SlotRef) : Guarded s (s.settleIntegrity ref) := by
  unfold State.settleIntegrity
  split
  · exact .refl s
  · split
    · exact (guarded_record s _ _).trans ((Guarded.modExtent _ _ (quiet_verified _ _)).trans
        ((guarded_dropReader _ _).trans ((guarded_endSlot _ _ _).trans (guarded_raise _ _ _))))
    · exact .refl s

theorem guarded_settleDisposed (s : State) : Guarded s s.settleDisposed := by
  unfold State.settleDisposed
  split
  · exact .refl s
  · split
    · exact .refl s
    · split
      · exact (guarded_record s _ _).trans ((Guarded.modExtent _ _ (quiet_release _ _)).trans
          ((guarded_leaveQueue _ _ _).trans (guarded_setStage _ _)))
      · exact .refl s

theorem guarded_settleDisposalFailed (s : State) : Guarded s s.settleDisposalFailed := by
  unfold State.settleDisposalFailed
  split
  · exact .refl s
  · split
    · exact .refl s
    · split
      · exact (guarded_record s _ _).trans ((Guarded.modExtent _ _ quiet_failDisposal).trans
          ((guarded_leaveQueue _ _ _).trans ((guarded_raise _ _ _).trans (guarded_setStage _ _))))
      · exact .refl s

theorem guarded_settle (s : State) (r : PlaceRequest) : Guarded s (s.settle r) := by
  unfold State.settle
  split
  · exact guarded_settleRecovery s _
  · exact .frame (by simp)
  · exact guarded_settleMediaFault s _
  · exact guarded_settleOpenTimeout s _
  · exact guarded_settleIntegrity s _
  · exact guarded_settleDisposed s
  · exact guarded_settleDisposalFailed s
  · exact .frame (by simp)

theorem guarded_request (s : State) (r : PlaceRequest) : Guarded s (s.request r) := by
  rcases s.request_cases r with ⟨_, h⟩ | ⟨_, h⟩ <;> rw [h]
  · exact (guarded_settle s r).trans (guarded_judgePage _)
  · exact .frame (by simp)

theorem guarded_grantPlace (s : State) (r : PlaceRequest) : Guarded s (s.grantPlace r) := by
  rcases s.grantPlace_cases r with ⟨_, h⟩ | ⟨_, h⟩ <;> rw [h]
  · exact (Guarded.frame (t := s.dropWait r) (by simp)).trans ((guarded_settle _ r).trans (guarded_judgePage _))
  · exact .refl s

theorem guarded_grantWaits (n : Nat) (s : State) : Guarded s (s.grantWaits n) := by
  induction n generalizing s with
  | zero => exact .refl s
  | succ n ih =>
    unfold State.grantWaits
    split
    · exact .refl s
    · split
      · exact (Guarded.frame (t := s.dropWait _) (by simp)).trans ((guarded_settle _ _).trans (ih _))
      · exact .refl s

theorem guarded_grantPlaces (s : State) : Guarded s s.grantPlaces :=
  (Guarded.frame (t := s.grantMark) (by simp)).trans (guarded_grantWaits _ _)

end Sys2Proof.Machine
end

section
/-! SUPPORT. Every command is `Checked`: first what the owners of the capsule kinds answer, then the rows that are no
capsules, power and start-up, and at last the statement (R84, R116, R124, R143). -/

namespace Sys2Proof.Machine

variable {s t u : State}

/-! ### Capsules -/

/-- The state an owner's verdict leads to, if any, is checked. -/
def Verdict.Checked (s : State) : Verdict → Prop
  | .refuse _ _ => True
  | .done _ _ t => Machine.Checked s t
  | .take _ _ _ t => Machine.Checked s t

@[simp] theorem Verdict.checked_refuse (s : State) (code : Code) (fields : List Byte) :
    (Verdict.refuse code fields).Checked s := trivial

@[simp] theorem Verdict.checked_done_self (s : State) (code : Code) (fields : List Byte) :
    (Verdict.done code fields s).Checked s := (Guarded.refl s).checked

theorem guarded_respond (s : State) (m : Master) (r : Receipt) : Guarded s (s.respond m r) := .frame (by simp)

theorem checked_conclude (s : State) (c : Capsule) {v : Verdict} (h : v.Checked s) : Checked s (s.conclude c v) := by
  cases v with
  | refuse code fields => exact (guarded_respond s _ _).checked
  | done code fields t => exact Checked.before h (guarded_respond t _ _)
  | take k w fields t => exact Checked.before h ((guarded_setSlot t _ _).trans (guarded_respond _ _ _))

theorem checked_judge (s : State) (c : Capsule) (k : Kind) (n : Nat) {owner : Ctx → Req → State → Verdict}
    (h : ∀ x q u, (owner x q u).Checked u) : Checked s (s.judge c k n owner) := by
  unfold State.judge
  dsimp only
  split
  · exact (guarded_respond s _ _).checked
  · split
    · exact (guarded_respond s _ _).checked
    · split
      · exact (NoneBegun.of_records (by simp)).checked
      · split
        · exact (guarded_respond s _ _).checked
        · exact checked_conclude s c (h _ _ _)

/-- A capsule's step is checked when its owner's verdicts are. -/
theorem checked_handOver (s : State) (h : HandOver) (k : Kind) {owner : Ctx → Req → State → Verdict}
    (ho : ∀ x q u, (owner x q u).Checked u) : Checked s (s.handOver h k owner) := by
  unfold State.handOver
  split
  · exact (Guarded.refl s).checked
  · split
    · exact (Guarded.refl s).checked
    · split
      · exact .after (.of_records (by simp)) (checked_judge _ _ _ _ ho)
      · exact (Guarded.refl s).checked

/-! ### Kinds that only report, links, routes and splits -/

theorem judgeQuery_checked (x : Ctx) (q : Req) (u : State) : (judgeQuery x q u).Checked u := by
  unfold judgeQuery
  repeat' split
  all_goals simp

theorem judgeFind_checked (x : Ctx) (q : Req) (u : State) : (judgeFind x q u).Checked u := by
  unfold judgeFind
  repeat' split
  all_goals simp

theorem judgeStatus_checked (x : Ctx) (q : Req) (u : State) : (judgeStatus x q u).Checked u := by
  unfold judgeStatus
  repeat' split
  all_goals simp

theorem judgeHoldList_checked (x : Ctx) (q : Req) (u : State) : (judgeHoldList x q u).Checked u := by
  unfold judgeHoldList
  repeat' split
  all_goals simp

theorem judgeClassGet_checked (x : Ctx) (q : Req) (u : State) : (judgeClassGet x q u).Checked u := by
  unfold judgeClassGet
  repeat' split
  all_goals simp

theorem judgeWindow_checked (x : Ctx) (q : Req) (u : State) : (judgeWindow x q u).Checked u := by
  unfold judgeWindow
  split
  · exact (NoneBegun.of_records (by simp)).checked
  · simp

theorem judgeEvents_checked (x : Ctx) (q : Req) (u : State) : (judgeEvents x q u).Checked u := by
  unfold judgeEvents
  split
  · exact (NoneBegun.of_records (by simp)).checked
  · simp

theorem judgeRoute_checked (x : Ctx) (q : Req) (u : State) : (judgeRoute x q u).Checked u := by
  unfold judgeRoute
  split
  · split
    · simp
    · split
      · simp
      · exact (NoneBegun.of_records (by simp)).checked
  · simp

theorem judgeSplit_checked (x : Ctx) (q : Req) (u : State) : (judgeSplit x q u).Checked u := by
  have begun (k n : Nat) : Machine.Checked u (u.beginSplit k n) := (NoneBegun.of_records (by simp)).checked
  unfold judgeSplit
  repeat' split
  all_goals first
    | exact begun _ _
    | exact Verdict.checked_refuse _ _ _

theorem judgeJournalRead_checked (x : Ctx) (q : Req) (u : State) : (judgeJournalRead x q u).Checked u := by
  unfold judgeJournalRead
  repeat' split
  all_goals first
    | exact (guarded_place u _).checked
    | exact Verdict.checked_done_self _ _ _
    | exact Verdict.checked_refuse _ _ _

/-! ### Writing -/

/-- A step that changes one record quietly, and beside it neither records nor rules. -/
theorem Guarded.change (k : Nat) {f : Extent → Extent} (hf : Extent.Quiet f)
    (h : t.et.records = (s.modExtent k f).et.records ∧ s.SameRules t) : Guarded s t :=
  (Guarded.modExtent s k hf).trans (.frame (by simpa using h))

/-- The tombstone that leaves hides no other record (R17). -/
theorem guarded_evict (s : State) (x : Extent) : Guarded s (s.evict x) := by
  refine .of_extents (by simp) fun n b hb sb => ⟨b, ?_, sb, .refl b⟩
  have hb' : (s.et.records.filter (fun r => r.number != x.number)).find? (fun r => r.number == n) = some b := hb
  have hn : b.number = n := State.extent_number hb
  have hx : n ≠ x.number := by simpa [hn] using (List.mem_filter.1 (List.mem_of_find?_eq_some hb')).2
  rw [List.find?_filter] at hb'
  rw [← hb', State.extent]
  congr 1
  funext r
  by_cases hr : r.number = n <;> simp [hr, hx]

/-- The record an OPEN creates is not at SCRUBBING (R40). -/
theorem guarded_create (s : State) (opener : Node) (store cls group key start : Nat) :
    Guarded s (s.create opener store cls group key start) := by
  refine .of_extents (by simp) fun n b hb sb => ⟨b, ?_, sb, .refl b⟩
  have hb' : (s.et.records ++ [Extent.created s.et.next key group store cls opener start s.clock.tick]).find?
      (fun r => r.number == n) = some b := hb
  rw [List.find?_append, Option.or_eq_some_iff] at hb'
  rcases hb' with h | ⟨_, h⟩
  · exact h
  · obtain rfl := List.mem_singleton.1 (List.mem_of_find?_eq_some h)
    cases sb

theorem judgeOpenKey_checked (u : State) (opener : Node) (store cls group key start : Nat) :
    (judgeOpenKey u opener store cls group key start).Checked u := by
  unfold judgeOpenKey
  split
  · split <;> exact Verdict.checked_refuse _ _ _
  · split
    · exact Verdict.checked_refuse _ _ _
    · split
      · exact (guarded_create u _ _ _ _ _ _).checked
      · split
        · exact Verdict.checked_refuse _ _ _
        · exact ((guarded_evict u _).trans (guarded_create _ _ _ _ _ _ _)).checked

theorem judgeOpen_checked (x : Ctx) (q : Req) (u : State) : (judgeOpen x q u).Checked u := by
  unfold judgeOpen
  repeat' split
  all_goals first
    | exact judgeOpenKey_checked u _ _ _ _ _ _
    | exact Verdict.checked_refuse _ _ _

theorem guarded_beginAppend (s : State) (r : Extent) (blocks : Nat) : Guarded s (s.beginAppend r blocks) :=
  .change r.number quiet_beginAppend (by simp [State.beginAppend, State.modExtent])

theorem judgeAppend_checked (x : Ctx) (q : Req) (u : State) : (judgeAppend x q u).Checked u := by
  unfold judgeAppend
  repeat' split
  all_goals first
    | exact (guarded_beginAppend u _ _).checked
    | exact Verdict.checked_refuse _ _ _

theorem guarded_beginClose (s : State) (r : Extent) : Guarded s (s.beginClose r) :=
  (Guarded.change (t := (s.modExtent r.number Extent.closing).takeStore r.store
    (.held (trailer r r.closingCheck s.clock.seconds s.clock.state))) r.number quiet_closing (by simp)).trans
    (guarded_place _ _)

theorem judgeClose_checked (x : Ctx) (q : Req) (u : State) : (judgeClose x q u).Checked u := by
  unfold judgeClose
  repeat' split
  all_goals first
    | exact (guarded_beginClose u _).checked
    | exact Verdict.checked_refuse _ _ _

theorem judgeAbandon_checked (x : Ctx) (q : Req) (u : State) : (judgeAbandon x q u).Checked u := by
  unfold judgeAbandon
  repeat' split
  all_goals first
    | exact ((guarded_voidExtent u _ _ _).trans (guarded_judgePage _)).checked
    | exact Verdict.checked_refuse _ _ _

theorem guarded_failFetch (s : State) (ext : Nat) : Guarded s (s.failFetch ext) := by
  unfold State.failFetch
  split
  · exact .refl s
  · exact .change ext (quiet_endFetch s.clock.tick) (by simp [State.modExtent])

theorem guarded_fetchFault (s : State) (ref : SlotRef) (ext : Nat) : Guarded s (s.fetchFault ref ext) :=
  (guarded_failFetch s ext).trans
    ((Guarded.frame (t := State.raiseFault _ ref) (by simp)).trans (guarded_endSlot _ _ _))

theorem guarded_fetched (s : State) (ref : SlotRef) (h : Held) (w : AppendWork) (data : List Byte) :
    Guarded s (s.fetched ref h w data) := by
  unfold State.fetched
  split
  · exact .refl s
  · exact (guarded_setSlot s _ _).trans ((guarded_setUnit _ _ _ _).trans (guarded_place _ _))

theorem guarded_appendDone (s : State) (k blocks : Nat) : Guarded s (s.appendDone k blocks) := by
  unfold State.appendDone
  split
  · exact .refl s
  · exact (Guarded.modExtent s _ (quiet_appended _ _ _)).trans
      ((guarded_setUnit _ _ _ _).trans (guarded_endWrite _ _ _))

theorem guarded_trailerDone (s : State) (k : Nat) : Guarded s (s.trailerDone k) := by
  unfold State.trailerDone
  split
  · exact .refl s
  · next r _ =>
    split
    · exact (Guarded.change r.number (quiet_commit s.clock.seconds s.clock.state) (by simp)).trans
        (guarded_judgeSince _ _)
    · exact .refl s

theorem guarded_judgeTimer (s : State) (k : Nat) : Guarded s (s.judgeTimer k) := by
  unfold State.judgeTimer
  split
  · exact (guarded_setUnit s _ _ _).trans (guarded_request _ _)
  · exact .refl s

/-! ### Reading -/

theorem guarded_addReader (s : State) (n : Nat) : Guarded s (s.addReader n) := .frame (by simp)

theorem judgeRead_checked (x : Ctx) (q : Req) (u : State) : (judgeRead x q u).Checked u := by
  unfold judgeRead
  repeat' split
  all_goals first
    | exact ((guarded_addReader u _).trans (guarded_place _ _)).checked
    | exact Verdict.checked_refuse _ _ _

theorem judgeVerify_checked (x : Ctx) (q : Req) (u : State) : (judgeVerify x q u).Checked u := by
  unfold judgeVerify
  repeat' split
  all_goals first
    | exact ((guarded_addReader u _).trans (guarded_place _ _)).checked
    | exact Verdict.checked_refuse _ _ _

theorem guarded_setVerify (s : State) (ref : SlotRef) (w : VerifyWork) : Guarded s (s.setVerify ref w) :=
  .frame (by simp)

theorem guarded_damaged (s : State) (ref : SlotRef) (w : VerifyWork) (d : Damage) : Guarded s (s.damaged ref w d) :=
  (guarded_setVerify s _ _).trans (guarded_request _ _)

theorem guarded_verifyMatch (s : State) (ref : SlotRef) (w : VerifyWork) (check : Word32) :
    Guarded s (s.verifyMatch ref w check) :=
  (Guarded.modExtent s _ (quiet_verified _ _)).trans ((guarded_dropReader _ _).trans (guarded_endSlot _ _ _))

theorem guarded_verifyFetched (s : State) (ref : SlotRef) (blocks : Nat) (data : List Byte) :
    Guarded s (s.verifyFetched ref blocks data) := by
  unfold State.verifyFetched
  split
  · exact .refl s
  · split
    · exact .refl s
    · dsimp only
      split
      · exact (guarded_setVerify s _ _).trans (guarded_place _ _)
      · split
        · exact guarded_verifyMatch s _ _ _
        · exact guarded_damaged s _ _ _

theorem guarded_verifyFault (s : State) (ref : SlotRef) (blocks : Nat) : Guarded s (s.verifyFault ref blocks) := by
  unfold State.verifyFault
  split
  · exact .refl s
  · exact guarded_damaged s _ _ _

/-! ### Links -/

theorem guarded_resetSlot (s : State) (ref : SlotRef) : Guarded s (s.resetSlot ref) := by
  unfold State.resetSlot
  split
  · split
    · exact .frame (by simp)
    · split <;> exact .frame (by simp)
  · exact guarded_setSlot s _ _
  · refine Guarded.trans ?_ (guarded_setSlot _ _ _)
    split
    · exact guarded_failFetch s _
    · exact .refl s
  · exact guarded_setSlot s _ _
  · exact guarded_setSlot s _ _
  · exact .refl s

theorem guarded_resetLink (s : State) (n : Node) : Guarded s (s.resetLink n) :=
  (Guarded.foldl guarded_resetSlot (linkSlots n) s).trans (.frame (by simp [State.resetLink]))

/-! ### Disposition -/

theorem guarded_enqueue (s : State) (e : QueueEntry) : Guarded s (s.enqueue e) :=
  .change e.ext quiet_queue (by simp [State.enqueue])

theorem guarded_classifyAll (m : Master) (slot : Option SlotRef) (l : List Nat) (s : State) (t : Tally) :
    Guarded s (State.classifyAll m slot l s t).1 := by
  induction l generalizing s t with
  | nil => exact .refl s
  | cons n ns ih =>
    unfold State.classifyAll
    split
    · exact .refl s
    · split
      · exact (guarded_enqueue s _).trans (ih _ _)
      · exact ih s _

theorem judgeDispose_checked (x : Ctx) (q : Req) (u : State) : (judgeDispose x q u).Checked u := by
  unfold judgeDispose
  split
  · split
    · exact Verdict.checked_refuse _ _ _
    · split
      · exact Verdict.checked_refuse _ _ _
      · dsimp only
        split
        · exact Verdict.checked_done_self _ _ _
        · split
          · exact Verdict.checked_refuse _ _ _
          · exact (guarded_classifyAll _ _ _ u _).checked
  · exact Verdict.checked_refuse _ _ _

theorem guarded_placeScrub (s : State) (n : Nat) : Guarded s (s.placeScrub n) := by
  unfold State.placeScrub
  split
  · exact .refl s
  · split
    · exact (guarded_setStage s _).trans (guarded_place _ _)
    · exact guarded_returnHead s

theorem guarded_takeHead (s : State) : Guarded s s.takeHead := by
  unfold State.takeHead
  split
  · exact .refl s
  · dsimp only
    split
    · exact (Guarded.modExtent s _ quiet_headTaken).trans (guarded_setStage _ _)
    · exact (Guarded.modExtent s _ quiet_headTaken).trans (guarded_placeScrub _ _)

theorem guarded_scrubFault (s : State) (n : Nat) : Guarded s (s.scrubFault n) := by
  unfold State.scrubFault
  split
  · exact .refl s
  · split
    · dsimp only
      split
      · exact (Guarded.modExtent s _ quiet_scrubFailed).trans (guarded_returnHead _)
      · exact (Guarded.modExtent s _ quiet_scrubFailed).trans (guarded_placeScrub _ _)
    · exact (guarded_setStage s _).trans (guarded_request _ _)

/-! ### Commands that change the rules: before anything is granted -/

theorem judgeHoldPlace_checked (x : Ctx) (q : Req) (u : State) : (judgeHoldPlace x q u).Checked u := by
  have placed (o : Origin) (matter : Nat) (scope : Scope) : Machine.Checked u (u.placeHold o matter scope) :=
    (NoneBegun.of_records (by simp)).checked.before (guarded_judgePage _)
  unfold judgeHoldPlace
  repeat' split
  all_goals first
    | exact placed _ _ _
    | exact Verdict.checked_refuse _ _ _

theorem judgeHoldLift_checked (x : Ctx) (q : Req) (u : State) : (judgeHoldLift x q u).Checked u := by
  have lifted (o : Origin) (k : Nat) (y : Hold) : Machine.Checked u (u.liftHold o k y) :=
    (NoneBegun.of_records (by simp)).checked.before (guarded_judgePage _)
  unfold judgeHoldLift
  repeat' split
  all_goals first
    | exact lifted _ _ _
    | exact Verdict.checked_refuse _ _ _

theorem judgeClassSet_checked (x : Ctx) (q : Req) (u : State) : (judgeClassSet x q u).Checked u := by
  have stored (o : Origin) (cls : Nat) (e : ClassEntry) : Machine.Checked u (u.setClass o cls e) := by
    unfold State.setClass
    split
    · exact (NoneBegun.of_records (by simp)).checked.before (guarded_judgePage _)
    · exact (NoneBegun.of_records (by simp)).checked
  unfold judgeClassSet
  dsimp only
  repeat' split
  all_goals first
    | exact stored _ _ _
    | exact Verdict.checked_refuse _ _ _

theorem judgePolicyFix_checked (x : Ctx) (q : Req) (u : State) : (judgePolicyFix x q u).Checked u := by
  have fixed (o : Origin) : Machine.Checked u (u.fixPolicy o) :=
    (NoneBegun.of_records (by simp)).checked.before (guarded_judgePage _)
  unfold judgePolicyFix
  repeat' split
  all_goals first
    | exact fixed _
    | exact Verdict.checked_refuse _ _ _

theorem judgeAdopt_checked (x : Ctx) (q : Req) (u : State) : (judgeAdopt x q u).Checked u := by
  have adopted (o : Origin) (m : FarMark) (d : Int) : Machine.Checked u (u.adopt o m d) :=
    (NoneBegun.of_records (by simp)).checked.before (guarded_judgePage _)
  unfold judgeAdopt
  dsimp only
  repeat' split
  all_goals first
    | exact adopted _ _ _
    | exact Verdict.checked_refuse _ _ _

/-- A floor brings no extent to SCRUBBING (R118). -/
theorem noneBegun_extend (s : State) (n floor : Nat) : NoneBegun s (s.modExtent n (Extent.extend floor)) := by
  have same (r : Extent) : (r.extend floor).isScrubbing = r.isScrubbing := by
    unfold Extent.extend
    split <;> rfl
  rintro m ⟨r, hr, hs⟩
  rw [State.extent_modExtent s n (touch_extend floor).number, Option.map_eq_some_iff] at hr
  obtain ⟨a, ha, rfl⟩ := hr
  refine ⟨a, ha, ?_⟩
  split at hs
  · rwa [same] at hs
  · exact hs

theorem noneBegun_extendOne (days : Option Nat) (p : State × ExtendTally) (n : Nat) :
    NoneBegun p.1 (State.extendOne days p n).1 := by
  unfold State.extendOne
  dsimp only
  split
  · exact fun _ h => h
  · split
    · exact fun _ h => h
    · split
      · exact fun _ h => h
      · exact noneBegun_extend p.1 n _

theorem noneBegun_extendAll (days : Option Nat) (l : List Nat) (p : State × ExtendTally) :
    NoneBegun p.1 (l.foldl (State.extendOne days) p).1 := by
  induction l generalizing p with
  | nil => exact fun _ h => h
  | cons n l ih => exact (noneBegun_extendOne days p n).trans (ih _)

theorem judgeExtend_checked (x : Ctx) (q : Req) (u : State) : (judgeExtend x q u).Checked u := by
  unfold judgeExtend
  repeat' split
  all_goals first
    | exact (noneBegun_extendAll _ _ (u, _)).checked.before ((guarded_record _ _ _).trans (guarded_judgePage _))
    | exact Verdict.checked_refuse _ _ _

/-! ### Time -/

theorem judgeTime_checked (x : Ctx) (q : Req) (u : State) : (judgeTime x q u).Checked u := by
  unfold judgeTime
  split
  · split
    · exact Verdict.checked_done_self _ _ _
    · exact ((Guarded.frame (t := u.withLink _ _) (by simp)).trans
        (guarded_changeClock _ _ (by simp [onMark_seconds]))).checked
  · exact Verdict.checked_refuse _ _ _

theorem guarded_judgeHoldover (s : State) : Guarded s s.judgeHoldover := by
  unfold State.judgeHoldover
  split
  · exact guarded_changeClock s _ rfl
  · exact .refl s

theorem guarded_judgeTick (s : State) : Guarded s s.judgeTick :=
  (guarded_judgeHoldover s).trans ((Guarded.foldl guarded_judgeTimer _ _).trans (guarded_judgePage _))

/-! ### The ends of page writes -/

theorem guarded_pageDone (s : State) : Guarded s s.pageDone :=
  (Guarded.frame (t := (s.withJournal s.journal.pageWritten).judgeFull) (by simp)).trans
    ((guarded_grantPlaces _).trans (guarded_judgePage _))

theorem guarded_pageFault (s : State) : Guarded s s.pageFault := by
  unfold State.pageFault
  dsimp only
  refine (Guarded.frame (t := (s.withJournal s.journal.pageFaulted).judgeFull) (by simp)).trans
    (Guarded.trans ?_ (guarded_judgePage _))
  split
  · exact guarded_grantPlaces _
  · exact .refl _

theorem guarded_mediaError (s : State) (op : MediaOp) : Guarded s (s.mediaError op) := by
  unfold State.mediaError
  split
  · exact guarded_request s _
  · exact guarded_request s _
  · exact .frame (by simp)
  · exact guarded_verifyFault s _ _
  · exact .frame (by simp)
  · exact guarded_scrubFault s _
  · exact guarded_pageFault s

/-! ### Power and start-up -/

theorem recovered_not_scrubbing (exhausted : Bool) (r : Extent) : (Extent.recovered exhausted r).isScrubbing = false := by
  unfold Extent.recovered
  split
  · split
    · rfl
    · simp [Extent.isScrubbing]
  · next h => simp [Extent.isScrubbing, h]

/-- Recovery leaves no extent at SCRUBBING (R10). -/
theorem recover_not_scrubbing (s : State) (cause : Cause) (initialized : Bool) (n : Nat) :
    ¬ (s.recover cause initialized).scrubbing n := by
  rintro ⟨b, hb, sb⟩
  rw [recover_eq] at hb
  obtain ⟨a, _, rfl⟩ := List.mem_map.1 (List.mem_of_find?_eq_some hb)
  rw [recovered_not_scrubbing] at sb
  cases sb

theorem noneBegun_startUp (s : State) (cause : Cause) (env : StartEnv) : NoneBegun s (s.startUp cause env) := by
  rcases startUp_cases s cause env with ⟨_, h⟩ | ⟨_, h⟩ | ⟨_, _, _, _, _, h⟩ <;> rw [h]
  · exact fun n hn => absurd hn (recover_not_scrubbing _ _ _ n)
  · exact .of_records rfl
  · exact fun n hn => absurd hn (recover_not_scrubbing _ _ _ n)

/-! ### The rows -/

/-- What an outcome leads to is checked. -/
def Passes (s : State) (o : Host.Outcome State Fault Refusal) : Prop := ∀ t, o = .next t → Checked s t

theorem Passes.next (h : Checked s t) : Passes s (.next t) := by
  intro u hu
  cases hu
  exact h

theorem Passes.stay (s : State) : Passes s (.next s) := .next (Guarded.refl s).checked

/-- A row that acts under a condition. -/
theorem Passes.ite {c : Prop} [Decidable c] (h : Checked s t) : Passes s (if c then .next t else .next s) := by
  split
  · exact .next h
  · exact .stay s

/-- A completion step: the requester's reaction, then the grant (R79, R85). -/
theorem Passes.complete (h : Guarded s t) : Passes s (.next t.complete) := .next (h.trans (guarded_complete t)).checked

theorem passes_powerOn (env : StartEnv) (s : State) : Passes s (execPowerOn env s) := by
  unfold execPowerOn
  split
  · exact .next (noneBegun_startUp s _ env).checked
  · exact .stay s

theorem passes_resetNRelease (env : StartEnv) (s : State) : Passes s (execResetNRelease env s) := by
  unfold execResetNRelease
  split
  · exact .next (noneBegun_startUp s _ env).checked
  · exact .stay s

theorem passes_recoveryVoid (s : State) : Passes s (execRecoveryVoid s) := by
  unfold execRecoveryVoid
  split
  · exact .next (guarded_grantPlace s _).checked
  · exact .stay s

theorem passes_start (s : State) : Passes s (execStart s) := by
  unfold execStart
  split
  · exact .next (guarded_grantPlace s _).checked
  · exact .stay s

theorem passes_capsuleWindowWrite (n : Node) (offset : Nat) (bytes : List Byte) (s : State) :
    Passes s (execCapsuleWindowWrite n offset bytes s) := by
  unfold execCapsuleWindowWrite
  split
  · exact fun _ h => by cases h
  · exact .ite (NoneBegun.of_records (by simp)).checked

theorem passes_noCapsule (r : ReceiptRead) (s : State) : Passes s (execNoCapsule r s) := by
  unfold execNoCapsule
  split
  · exact .ite (NoneBegun.of_records (by simp)).checked
  · exact .ite (NoneBegun.of_records (by simp)).checked

theorem passes_split (h : HandOver) (s : State) : Passes s (execSplit h s) := by
  have taken : Checked s (s.handOver h .split judgeSplit) := checked_handOver s h _ judgeSplit_checked
  unfold execSplit
  refine .next ?_
  split
  · exact taken
  · exact taken.before ((Guarded.frame (t := State.askSplit _) (by simp)).trans (guarded_judgeSince _ _))

theorem passes_readersDrained (s : State) : Passes s (execReadersDrained s) := by
  unfold execReadersDrained
  split
  · exact .ite (guarded_placeScrub s _).checked
  · exact .stay s

theorem passes_mediaAnswerLimit (s : State) : Passes s (execMediaAnswerLimit s) := by
  unfold execMediaAnswerLimit
  split
  · exact .ite ((guarded_mediaError s _).trans (guarded_complete _)).checked
  · exact .stay s

theorem passes_fetchComplete (n : Node) (slot : Nat) (l : List (List Byte)) (s : State) :
    Passes s (execFetchComplete n slot l s) := by
  unfold execFetchComplete
  split
  · exact .ite (guarded_fetched s _ _ _ _).checked
  · exact .stay s

theorem passes_fetchFailed (n : Node) (slot : Nat) (s : State) : Passes s (execFetchFailed n slot s) := by
  unfold execFetchFailed
  split
  · exact .ite (guarded_fetchFault s _ _).checked
  · exact .stay s

theorem passes_dmaReadTimeout (n : Node) (slot sent : Nat) (s : State) :
    Passes s (execDmaReadTimeout n slot sent s) := by
  unfold execDmaReadTimeout
  split
  · exact .ite (guarded_fetchFault s _ _).checked
  · exact .ite (NoneBegun.of_records (by simp)).checked
  · exact .stay s

theorem passes_readDmaComplete (n : Node) (slot : Nat) (s : State) : Passes s (execReadDmaComplete n slot s) := by
  unfold execReadDmaComplete
  split
  · exact .ite (NoneBegun.of_records (by simp)).checked
  · exact .stay s

theorem passes_readDmaFailed (n : Node) (slot placed : Nat) (s : State) :
    Passes s (execReadDmaFailed n slot placed s) := by
  unfold execReadDmaFailed
  split
  · exact .ite (NoneBegun.of_records (by simp)).checked
  · exact .stay s

/-! ### The answers of the array -/

theorem passes_appendProgramOk (s : State) : Passes s (execAppendProgramOk s) := by
  unfold execAppendProgramOk
  split
  · exact .complete (guarded_appendDone s _ _)
  · exact .stay s

theorem passes_appendProgramMediaError (s : State) : Passes s (execAppendProgramMediaError s) := by
  unfold execAppendProgramMediaError
  split
  · exact .complete (guarded_request s _)
  · exact .stay s

theorem passes_trailerOk (s : State) : Passes s (execTrailerOk s) := by
  unfold execTrailerOk
  split
  · exact .complete (guarded_trailerDone s _)
  · exact .stay s

theorem passes_trailerMediaError (s : State) : Passes s (execTrailerMediaError s) := by
  unfold execTrailerMediaError
  split
  · exact .complete (guarded_request s _)
  · exact .stay s

theorem passes_readFetchOk (data : List Byte) (s : State) : Passes s (execReadFetchOk data s) := by
  have fetched (ref : SlotRef) : Guarded s (s.readFetched ref data) := .frame (by simp)
  unfold execReadFetchOk
  split
  · exact .ite ((fetched _).trans (guarded_complete _)).checked
  · exact .stay s

theorem passes_readFetchMediaError (s : State) : Passes s (execReadFetchMediaError s) := by
  unfold execReadFetchMediaError
  split
  · exact .complete (.frame (by simp))
  · exact .stay s

theorem passes_verifyFetchOk (data : List Byte) (s : State) : Passes s (execVerifyFetchOk data s) := by
  unfold execVerifyFetchOk
  split
  · exact .ite ((guarded_verifyFetched s _ _ _).trans (guarded_complete _)).checked
  · exact .stay s

theorem passes_verifyFetchMediaError (s : State) : Passes s (execVerifyFetchMediaError s) := by
  unfold execVerifyFetchMediaError
  split
  · exact .complete (guarded_verifyFault s _ _)
  · exact .stay s

theorem passes_journalReadFetchDone (page : Option (List Byte)) (s : State) :
    Passes s (execJournalReadFetchDone page s) := by
  have fetched (ref : SlotRef) : Guarded s (s.pageFetched ref page) := .frame (by simp)
  unfold execJournalReadFetchDone
  split
  · exact .ite ((fetched _).trans (guarded_complete _)).checked
  · exact .stay s

theorem passes_scrubCompleteOk (s : State) : Passes s (execScrubCompleteOk s) := by
  unfold execScrubCompleteOk
  split
  · exact .complete ((guarded_setStage s _).trans (guarded_request _ _))
  · exact .stay s

theorem passes_scrubMediaError (s : State) : Passes s (execScrubMediaError s) := by
  unfold execScrubMediaError
  split
  · exact .complete (guarded_scrubFault s _)
  · exact .stay s

theorem passes_journalWriteOk (s : State) : Passes s (execJournalWriteOk s) := by
  unfold execJournalWriteOk
  split
  · exact .complete (guarded_pageDone s)
  · exact .stay s

theorem passes_journalWriteMediaError (s : State) : Passes s (execJournalWriteMediaError s) := by
  unfold execJournalWriteMediaError
  split
  · exact .complete (guarded_pageFault s)
  · exact .stay s

/-! ### Every command -/

/-- Whatever the command, each scrub it begins passes the issue-time check after it. -/
theorem exec_passes (i : Instr) (s : State) : Passes s (exec i s) := by
  cases i with
  | powerOn env => exact passes_powerOn env s
  | resetNAssert => exact .ite (NoneBegun.of_records rfl).checked
  | resetNRelease env => exact passes_resetNRelease env s
  | powerLoss => exact .next (NoneBegun.of_records rfl).checked
  | recoveryVoid => exact passes_recoveryVoid s
  | start => exact passes_start s
  | linkReset n => exact .ite (guarded_resetLink s n).checked
  | linkUp n => exact .ite (NoneBegun.of_records (by simp)).checked
  | msiEnableWrite n e => exact .ite (NoneBegun.of_records (by simp)).checked
  | capsuleWindowWrite n o l => exact passes_capsuleWindowWrite n o l s
  | noCapsule r => exact passes_noCapsule r s
  | badKind x => exact .next (NoneBegun.of_records (by simp)).checked
  | cportPartialCapsule a l => exact .stay s
  | cportReceiptRead a n => exact .ite (NoneBegun.of_records (by simp)).checked
  | roleChange => exact .ite (NoneBegun.of_records (by simp)).checked
  | openExtent x => exact .next (checked_handOver s x _ judgeOpen_checked)
  | append x => exact .next (checked_handOver s x _ judgeAppend_checked)
  | close x => exact .next (checked_handOver s x _ judgeClose_checked)
  | abandon x => exact .next (checked_handOver s x _ judgeAbandon_checked)
  | read x => exact .next (checked_handOver s x _ judgeRead_checked)
  | verify x => exact .next (checked_handOver s x _ judgeVerify_checked)
  | query x => exact .next (checked_handOver s x _ judgeQuery_checked)
  | find x => exact .next (checked_handOver s x _ judgeFind_checked)
  | status x => exact .next (checked_handOver s x _ judgeStatus_checked)
  | window x => exact .next (checked_handOver s x _ judgeWindow_checked)
  | time x => exact .next (checked_handOver s x _ judgeTime_checked)
  | events x => exact .next (checked_handOver s x _ judgeEvents_checked)
  | dispose x => exact .next (checked_handOver s x _ judgeDispose_checked)
  | holdPlace x => exact .next (checked_handOver s x _ judgeHoldPlace_checked)
  | holdLift x => exact .next (checked_handOver s x _ judgeHoldLift_checked)
  | holdList x => exact .next (checked_handOver s x _ judgeHoldList_checked)
  | extend x => exact .next (checked_handOver s x _ judgeExtend_checked)
  | classSet x => exact .next (checked_handOver s x _ judgeClassSet_checked)
  | classGet x => exact .next (checked_handOver s x _ judgeClassGet_checked)
  | policyFix x => exact .next (checked_handOver s x _ judgePolicyFix_checked)
  | adopt x => exact .next (checked_handOver s x _ judgeAdopt_checked)
  | route x => exact .next (checked_handOver s x _ judgeRoute_checked)
  | split x => exact passes_split x s
  | journalRead x => exact .next (checked_handOver s x _ judgeJournalRead_checked)
  | tick => exact .ite ((NoneBegun.of_records (t := s.tickClock) (by simp)).checked.before (guarded_judgeTick _))
  | openTimeoutDue k => exact .next (guarded_judgeTimer s k).checked
  | openTimeout k => exact .next (guarded_grantPlace s _).checked
  | splitTimeout => exact .ite (NoneBegun.of_records (by simp)).checked
  | holdover => exact .ite (guarded_judgeHoldover s).checked
  | partialPageTime => exact .ite (guarded_judgePage s).checked
  | mediaAnswerLimit => exact passes_mediaAnswerLimit s
  | dmaReadTimeout n k m => exact passes_dmaReadTimeout n k m s
  | fetchComplete n k l => exact passes_fetchComplete n k l s
  | fetchFailed n k => exact passes_fetchFailed n k s
  | appendProgramOk => exact passes_appendProgramOk s
  | appendProgramMediaError => exact passes_appendProgramMediaError s
  | trailerOk => exact passes_trailerOk s
  | trailerMediaError => exact passes_trailerMediaError s
  | mediaFaultVoid k => exact .next (guarded_grantPlace s _).checked
  | readFetchOk l => exact passes_readFetchOk l s
  | readFetchMediaError => exact passes_readFetchMediaError s
  | readDmaComplete n k => exact passes_readDmaComplete n k s
  | readDmaFailed n k m => exact passes_readDmaFailed n k m s
  | verifyFetchOk l => exact passes_verifyFetchOk l s
  | verifyFetchMediaError => exact passes_verifyFetchMediaError s
  | integrityRecord ref => exact .next (guarded_grantPlace s _).checked
  | journalReadFetchDone p => exact passes_journalReadFetchDone p s
  | headTake => exact .ite (guarded_takeHead s).checked
  | readersDrained => exact passes_readersDrained s
  | scrubCompleteOk => exact passes_scrubCompleteOk s
  | disposed => exact .next (guarded_grantPlace s _).checked
  | scrubMediaError => exact passes_scrubMediaError s
  | disposalFailed => exact .next (guarded_grantPlace s _).checked
  | splitApply => exact .next (guarded_grantPlace s _).checked
  | journalWriteOk => exact passes_journalWriteOk s
  | journalWriteMediaError => exact passes_journalWriteMediaError s
  | coalescedClockState =>
    exact .ite ((Guarded.frame (t := s.grantMark) (by simp)).trans (guarded_judgePage _)).checked
  | cmodeSample low => exact .ite (NoneBegun.of_records (by simp)).checked

/-- Settles O56: the front command is checked (`exec_passes`), and taking it off the queue begins no scrub. -/
theorem onlyExpiredUnheldExtentsAreScrubbed : Obligations.OnlyExpiredUnheldExtentsAreScrubbed := by
  intro s t n h
  unfold step at h
  split at h
  · cases h
    exact .inl
  · next c rest _ =>
    exact Checked.after (t := s.withPending rest) (.of_records rfl) (exec_passes c _ t h) n

end Sys2Proof.Machine
end

section
/-! SUPPORT. What the invariants of the layout, the settings, the clock, the CMODE count and the holds read of a state
(`State.layout`), and that the shared operations leave it: one simp lemma per operation, in the order of Machine/Ops.lean,
Machine/Places.lean and the families. -/

namespace Sys2Proof.Machine

/-- The lengths a layout fixes, with the settings, the clock, the CMODE count and the holds. -/
structure Layout where
  windowA : Nat
  windowB : Nat
  slotsA : Nat
  slotsB : Nat
  portSlots : Nat
  buffers : Nat
  units : Nat
  classes : Nat
  routes : Nat
  settings : Settings
  clock : Clock
  count : Nat
  holds : HoldList

/-- The layout of a state. -/
def State.layout (s : State) : Layout where
  windowA := s.linkA.window.length
  windowB := s.linkB.window.length
  slotsA := s.linkA.slots.length
  slotsB := s.linkB.slots.length
  portSlots := s.cport.slots.length
  buffers := s.cport.pageBuffers.length
  units := s.write.length
  classes := s.classes.entries.length
  routes := s.router.routes.length
  settings := s.settings
  clock := s.clock
  count := s.cport.count
  holds := s.holds

/-! ### The named updates -/

@[simp] theorem layout_withPhase (s : State) (v : Phase) : (s.withPhase v).layout = s.layout := rfl
@[simp] theorem layout_withStartup (s : State) (v : Startup) : (s.withStartup v).layout = s.layout := rfl
@[simp] theorem layout_withEt (s : State) (v : ExtentTable) : (s.withEt v).layout = s.layout := rfl
@[simp] theorem layout_withReaders (s : State) (v : List (Nat × Nat)) : (s.withReaders v).layout = s.layout := rfl
@[simp] theorem layout_withStoreMap (s : State) (v : StoreMap) : (s.withStoreMap v).layout = s.layout := rfl
@[simp] theorem layout_withMedia (s : State) (v : Media) : (s.withMedia v).layout = s.layout := rfl
@[simp] theorem layout_withEngine (s : State) (v : Engine) : (s.withEngine v).layout = s.layout := rfl
@[simp] theorem layout_withJournal (s : State) (v : Journal) : (s.withJournal v).layout = s.layout := rfl
@[simp] theorem layout_withFreeCount (s : State) (v : Nat) : (s.withFreeCount v).layout = s.layout := rfl
@[simp] theorem layout_withPending (s : State) (v : List Instr) : (s.withPending v).layout = s.layout := rfl

@[simp] theorem layout_withClock (s : State) (v : Clock) : (s.withClock v).layout = { s.layout with clock := v } := rfl

@[simp] theorem layout_withHolds (s : State) (v : HoldList) : (s.withHolds v).layout = { s.layout with holds := v } := rfl

theorem layout_withRouter (s : State) {v : EventRouter} (h : v.routes.length = s.router.routes.length) :
    (s.withRouter v).layout = s.layout := by
  simp [State.layout, h]

theorem layout_withClasses (s : State) {v : ClassTable} (h : v.entries.length = s.classes.entries.length) :
    (s.withClasses v).layout = s.layout := by
  simp [State.layout, h]

theorem layout_withLink (s : State) (n : Node) {l : LinkState} (hw : l.window.length = (s.link n).window.length)
    (hs : l.slots.length = (s.link n).slots.length) : (s.withLink n l).layout = s.layout := by
  cases n <;> simp_all [State.layout, State.withLink, State.link]

theorem layout_withCport (s : State) {p : CPort} (hs : p.slots.length = s.cport.slots.length)
    (hb : p.pageBuffers.length = s.cport.pageBuffers.length) (hc : p.count = s.cport.count) :
    (s.withCport p).layout = s.layout := by
  simp [State.layout, hs, hb, hc]

/-! ### Slots, events, records and stores -/

@[simp] theorem layout_setSlot (s : State) (ref : SlotRef) (v : Slot) : (s.setSlot ref v).layout = s.layout := by
  unfold State.setSlot
  split
  · exact layout_withLink s _ rfl List.length_set
  · exact layout_withCport s List.length_set rfl rfl

@[simp] theorem layout_raiseAt (s : State) (m : Master) (c : EventClass) : (s.raiseAt m c).layout = s.layout := by
  simp [State.layout]

@[simp] theorem layout_raise (s : State) (c : EventClass) (m : Option Master) : (s.raise c m).layout = s.layout := by
  simp [State.layout]

@[simp] theorem layout_endSlot (s : State) (ref : SlotRef) (r : Result) : (s.endSlot ref r).layout = s.layout := by
  unfold State.endSlot
  split <;> simp

@[simp] theorem layout_raiseFault (s : State) (ref : SlotRef) : (s.raiseFault ref).layout = s.layout := by
  unfold State.raiseFault
  split <;> simp

@[simp] theorem layout_modExtent (s : State) (n : Nat) (f : Extent → Extent) : (s.modExtent n f).layout = s.layout := rfl

@[simp] theorem layout_modStore (s : State) (k : Nat) (f : Store → Store) : (s.modStore k f).layout = s.layout := rfl

@[simp] theorem layout_setUnit (s : State) (k : Nat) (x : Staging) (t : Timer) : (s.setUnit k x t).layout = s.layout := by
  simp [State.layout, State.setUnit]

@[simp] theorem layout_endWrite (s : State) (r : Extent) (x : Result) : (s.endWrite r x).layout = s.layout := by
  unfold State.endWrite
  split <;> simp

@[simp] theorem layout_addReader (s : State) (n : Nat) : (s.addReader n).layout = s.layout := rfl

@[simp] theorem layout_dropReader (s : State) (n : Nat) : (s.dropReader n).layout = s.layout := rfl

@[simp] theorem layout_askPlace (s : State) (r : PlaceRequest) : (s.askPlace r).layout = s.layout := rfl

@[simp] theorem layout_dropWait (s : State) (r : PlaceRequest) : (s.dropWait r).layout = s.layout := rfl

@[simp] theorem layout_setStage (s : State) (g : Stage) : (s.setStage g).layout = s.layout := rfl

@[simp] theorem layout_record (s : State) (o : Origin) (x : Subject) : (s.record o x).layout = s.layout := by
  simp [State.layout]

/-! ### What grants do -/

/-- What a grant may do beside a command leaves the layout, where it leaves the fields that `Aside` does not speak of. -/
theorem Aside.layout {s t : State} (a : Aside s t) (h : t.write = s.write ∧ t.classes = s.classes ∧
    t.settings = s.settings ∧ t.clock = s.clock ∧ t.holds = s.holds) : t.layout = s.layout := by
  obtain ⟨hw, hl, hs, hc, hh⟩ := h
  have wa : t.linkA.window = s.linkA.window := by
    obtain ⟨l, h⟩ : ∃ l, t.linkA = { s.linkA with slots := l } := a.slots.links .a
    rw [h]
  have wb : t.linkB.window = s.linkB.window := by
    obtain ⟨l, h⟩ : ∃ l, t.linkB = { s.linkB with slots := l } := a.slots.links .b
    rw [h]
  have port : t.cport.pageBuffers = s.cport.pageBuffers ∧ t.cport.count = s.cport.count := by
    obtain ⟨l, h⟩ := a.slots.cport
    exact ⟨by rw [h], by rw [h]⟩
  have na : t.linkA.slots.length = s.linkA.slots.length := a.slots.slotCount (.node .a)
  have nb : t.linkB.slots.length = s.linkB.slots.length := a.slots.slotCount (.node .b)
  have np : t.cport.slots.length = s.cport.slots.length := a.slots.slotCount .cport
  simp only [State.layout, wa, wb, port, na, nb, np, hw, hl, hs, hc, hh, a.rest.routes]

@[simp] theorem layout_failSplit (s : State) (code : Code) : (s.failSplit code).layout = s.layout :=
  (Aside.failSplit s code).layout (by simp)

@[simp] theorem layout_leaveQueue (s : State) (e : QueueEntry) (x : Exit) : (s.leaveQueue e x).layout = s.layout :=
  (Aside.leaveQueue s e x).layout (by simp)

@[simp] theorem layout_returnHead (s : State) : s.returnHead.layout = s.layout :=
  (Aside.returnHead s).layout (by simp)

@[simp] theorem layout_exhaust (s : State) : s.exhaust.layout = s.layout := (Aside.exhaust s).layout (by simp)

@[simp] theorem layout_place (s : State) (op : MediaOp) : (s.place op).layout = s.layout :=
  (Aside.place s op).layout (by simp)

@[simp] theorem layout_complete (s : State) : s.complete.layout = s.layout := (Aside.complete s).layout (by simp)

@[simp] theorem layout_judgePage (s : State) : s.judgePage.layout = s.layout := (Aside.judgePage s).layout (by simp)

/-- Of the layout, a change of clock state changes the clock alone (R103). -/
@[simp] theorem layout_changeClock (s : State) (c : Clock) :
    (s.changeClock c).layout = { s.layout with clock := c } := by
  have recorded (u : State) (b : ClockState) : (u.recordChange b).layout = u.layout := by
    unfold State.recordChange
    split
    · rfl
    · split
      · rw [layout_judgePage]; rfl
      · split <;> rfl
  unfold State.changeClock
  split <;> simp [recorded]

/-! ### The effects of granted places -/

@[simp] theorem layout_settleSplit (s : State) : s.settleSplit.layout = s.layout := by
  unfold State.settleSplit
  split <;> simp

@[simp] theorem layout_askSplit (s : State) : s.askSplit.layout = s.layout := by
  rcases s.askSplit_cases with h | ⟨_, _, h | h⟩ <;> simp [h]

@[simp] theorem layout_judgeSince (t s : State) : (t.judgeSince s).layout = t.layout := by
  rcases t.judgeSince_cases s with h | h <;> simp [h]

@[simp] theorem layout_clearStore (s : State) (k : Nat) : (s.clearStore k).layout = s.layout := by
  simp [State.clearStore]

@[simp] theorem layout_voidExtent (s : State) (r : Extent) (o : Origin) (cause : VoidCause) :
    (s.voidExtent r o cause).layout = s.layout := by
  unfold State.voidExtent
  split <;> simp

@[simp] theorem layout_settleMediaFault (s : State) (k : Nat) : (s.settleMediaFault k).layout = s.layout := by
  unfold State.settleMediaFault
  split <;> simp

@[simp] theorem layout_settleOpenTimeout (s : State) (k : Nat) : (s.settleOpenTimeout k).layout = s.layout := by
  unfold State.settleOpenTimeout
  split <;> simp

@[simp] theorem layout_settleRecovery (s : State) (n : Nat) : (s.settleRecovery n).layout = s.layout := by
  unfold State.settleRecovery
  split <;> simp

@[simp] theorem layout_settleIntegrity (s : State) (ref : SlotRef) : (s.settleIntegrity ref).layout = s.layout := by
  unfold State.settleIntegrity
  split
  · rfl
  · split <;> simp

@[simp] theorem layout_settleDisposed (s : State) : s.settleDisposed.layout = s.layout := by
  unfold State.settleDisposed
  split
  · rfl
  · split
    · rfl
    · split <;> simp

@[simp] theorem layout_settleDisposalFailed (s : State) : s.settleDisposalFailed.layout = s.layout := by
  unfold State.settleDisposalFailed
  split
  · rfl
  · split
    · rfl
    · split <;> simp

@[simp] theorem layout_settleStart (s : State) : s.settleStart.layout = s.layout := by
  unfold State.settleStart
  split <;> simp

@[simp] theorem layout_settle (s : State) (r : PlaceRequest) : (s.settle r).layout = s.layout := by
  cases r <;> simp [State.settle]

@[simp] theorem layout_request (s : State) (r : PlaceRequest) : (s.request r).layout = s.layout := by
  rcases s.request_cases r with ⟨_, h⟩ | ⟨_, h⟩ <;> simp [h]

@[simp] theorem layout_grantPlace (s : State) (r : PlaceRequest) : (s.grantPlace r).layout = s.layout := by
  rcases s.grantPlace_cases r with ⟨_, h⟩ | ⟨_, h⟩ <;> simp [h]

@[simp] theorem layout_grantMark (s : State) : s.grantMark.layout = s.layout := by
  unfold State.grantMark
  split
  · rfl
  · split <;> simp

@[simp] theorem layout_grantWaits (n : Nat) (s : State) : (s.grantWaits n).layout = s.layout := by
  induction n generalizing s with
  | zero => rfl
  | succ n ih =>
    unfold State.grantWaits
    split
    · rfl
    · split <;> simp [ih]

@[simp] theorem layout_grantPlaces (s : State) : s.grantPlaces.layout = s.layout := by
  simp [State.grantPlaces]

/-! ### Capsules -/

@[simp] theorem layout_respond (s : State) (m : Master) (r : Receipt) : (s.respond m r).layout = s.layout := by
  cases m with
  | node n => exact layout_withLink s n rfl rfl
  | cport => exact layout_withCport s rfl rfl rfl

@[simp] theorem layout_takeMark (s : State) (m : Master) : (s.takeMark m).layout = s.layout := by
  cases m with
  | node n => exact layout_withLink s n rfl rfl
  | cport => rfl

@[simp] theorem layout_freeCollected (s : State) (ref : SlotRef) : (s.freeCollected ref).layout = s.layout := by
  unfold State.freeCollected
  split
  · exact layout_setSlot s ref .free
  · exact layout_withCport s List.length_set List.length_set rfl

@[simp] theorem layout_heldTag (s : State) (c : Capsule) (k : Nat) : (s.heldTag c k).layout = s.layout := by
  unfold State.heldTag
  dsimp only
  split
  · split <;> simp
  · split <;> simp
  · rfl

@[simp] theorem layout_refuseKind (s : State) (h : HandOver) : (s.refuseKind h).layout = s.layout := by
  unfold State.refuseKind
  split
  · rfl
  · split <;> simp

/-! ### Writing -/

@[simp] theorem layout_create (s : State) (o : Node) (store cls group key start : Nat) :
    (s.create o store cls group key start).layout = s.layout := by
  simp [State.create]

@[simp] theorem layout_takeStore (s : State) (k : Nat) (x : Staging) : (s.takeStore k x).layout = s.layout := by
  simp [State.takeStore]

@[simp] theorem layout_beginAppend (s : State) (r : Extent) (blocks : Nat) :
    (s.beginAppend r blocks).layout = s.layout := by
  simp [State.beginAppend]

@[simp] theorem layout_beginClose (s : State) (r : Extent) : (s.beginClose r).layout = s.layout := by
  simp [State.beginClose]

@[simp] theorem layout_failFetch (s : State) (n : Nat) : (s.failFetch n).layout = s.layout := by
  unfold State.failFetch
  split <;> simp

@[simp] theorem layout_fetchFault (s : State) (ref : SlotRef) (n : Nat) : (s.fetchFault ref n).layout = s.layout := by
  simp [State.fetchFault]

@[simp] theorem layout_fetched (s : State) (ref : SlotRef) (h : Held) (w : AppendWork) (data : List Byte) :
    (s.fetched ref h w data).layout = s.layout := by
  unfold State.fetched
  split <;> simp

@[simp] theorem layout_appendDone (s : State) (k blocks : Nat) : (s.appendDone k blocks).layout = s.layout := by
  unfold State.appendDone
  split <;> simp

@[simp] theorem layout_trailerDone (s : State) (k : Nat) : (s.trailerDone k).layout = s.layout := by
  unfold State.trailerDone
  split
  · rfl
  · split <;> simp

@[simp] theorem layout_judgeTimer (s : State) (k : Nat) : (s.judgeTimer k).layout = s.layout := by
  unfold State.judgeTimer
  split <;> simp

/-! ### Reading -/

@[simp] theorem layout_latchDma (s : State) (n : Node) (l : List Host.Cell) : (s.latchDma n l).layout = s.layout :=
  layout_withLink s n rfl rfl

@[simp] theorem layout_readFetched (s : State) (ref : SlotRef) (data : List Byte) :
    (s.readFetched ref data).layout = s.layout := by
  unfold State.readFetched
  split <;> simp

@[simp] theorem layout_readFault (s : State) (ref : SlotRef) : (s.readFault ref).layout = s.layout := by
  unfold State.readFault
  split <;> simp

@[simp] theorem layout_readDmaFault (s : State) (n : Node) (k : Nat) (w : ReadWork) (placed : Nat) :
    (s.readDmaFault n k w placed).layout = s.layout := by
  simp [State.readDmaFault]

@[simp] theorem layout_setVerify (s : State) (ref : SlotRef) (w : VerifyWork) : (s.setVerify ref w).layout = s.layout := by
  unfold State.setVerify
  split <;> simp

@[simp] theorem layout_damaged (s : State) (ref : SlotRef) (w : VerifyWork) (d : Damage) :
    (s.damaged ref w d).layout = s.layout := by
  simp [State.damaged]

@[simp] theorem layout_verifyFetched (s : State) (ref : SlotRef) (blocks : Nat) (data : List Byte) :
    (s.verifyFetched ref blocks data).layout = s.layout := by
  unfold State.verifyFetched
  split
  · rfl
  · split
    · rfl
    · dsimp only
      split
      · simp
      · split <;> simp [State.verifyMatch]

@[simp] theorem layout_verifyFault (s : State) (ref : SlotRef) (blocks : Nat) :
    (s.verifyFault ref blocks).layout = s.layout := by
  unfold State.verifyFault
  split <;> simp

/-! ### Links -/

@[simp] theorem layout_resetSlot (s : State) (ref : SlotRef) : (s.resetSlot ref).layout = s.layout := by
  unfold State.resetSlot
  split
  · split
    · simp [State.withdrawRead]
    · split <;> simp
  · simp
  · split <;> simp
  · simp
  · simp
  · rfl

@[simp] theorem layout_clearSet (s : State) (m : Master) : (s.clearSet m).layout = s.layout := by
  rcases m with (_ | _) | _ <;> rfl

@[simp] theorem layout_latchRead (s : State) (l : List Byte) : (s.latchRead l).layout = s.layout := rfl

@[simp] theorem layout_readReceipt (s : State) (len : Nat) : (s.readReceipt len).layout = s.layout := by
  unfold State.readReceipt
  split
  · rfl
  · split <;> rfl

/-! ### Disposition -/

@[simp] theorem layout_classifyAll (m : Master) (slot : Option SlotRef) (l : List Nat) (s : State) (t : Tally) :
    (State.classifyAll m slot l s t).1.layout = s.layout := by
  induction l generalizing s t with
  | nil => rfl
  | cons n l ih =>
    unfold State.classifyAll
    split
    · rfl
    · split <;> simp [ih, State.enqueue]

@[simp] theorem layout_placeScrub (s : State) (n : Nat) : (s.placeScrub n).layout = s.layout := by
  unfold State.placeScrub
  split
  · rfl
  · split <;> simp

@[simp] theorem layout_takeHead (s : State) : s.takeHead.layout = s.layout := by
  unfold State.takeHead
  split
  · rfl
  · dsimp only
    split <;> simp

@[simp] theorem layout_scrubFault (s : State) (n : Nat) : (s.scrubFault n).layout = s.layout := by
  unfold State.scrubFault
  split
  · rfl
  · split
    · dsimp only
      split <;> simp
    · simp

/-! ### Policy -/

@[simp] theorem layout_setClass (s : State) (o : Origin) (cls : Nat) (e : ClassEntry) :
    (s.setClass o cls e).layout = s.layout := by
  have written : (s.writeClass cls e).layout = s.layout := layout_withClasses s List.length_set
  unfold State.setClass
  split <;> simp [written]

@[simp] theorem layout_fixPolicy (s : State) (o : Origin) : (s.fixPolicy o).layout = s.layout := by
  simp [State.fixPolicy, layout_withClasses s (v := { s.classes with fixed := true }) rfl]

theorem layout_extendOne (days : Option Nat) (p : State × ExtendTally) (n : Nat) :
    (State.extendOne days p n).1.layout = p.1.layout := by
  unfold State.extendOne
  dsimp only
  split
  · rfl
  · split
    · rfl
    · split <;> rfl

@[simp] theorem layout_extendAll (s : State) (first last : Nat) (days : Option Nat) :
    (s.extendAll first last days).1.layout = s.layout := by
  have folded (l : List Nat) (p : State × ExtendTally) : (l.foldl (State.extendOne days) p).1.layout = p.1.layout := by
    induction l generalizing p with
    | nil => rfl
    | cons n l ih => rw [List.foldl_cons, ih, layout_extendOne]
  exact folded _ _

/-! ### The ends of page operations, and errors of the array -/

@[simp] theorem layout_pageFetched (s : State) (ref : SlotRef) (page : Option (List Byte)) :
    (s.pageFetched ref page).layout = s.layout := by
  have filled (k : Nat) (bytes : List Byte) : (s.fillPage k bytes).layout = s.layout :=
    layout_withCport s rfl List.length_set rfl
  unfold State.pageFetched
  split
  · split <;> simp [filled]
  · rfl

@[simp] theorem layout_judgeFull (s : State) : s.judgeFull.layout = s.layout := by
  unfold State.judgeFull
  split <;> simp

@[simp] theorem layout_pageDone (s : State) : s.pageDone.layout = s.layout := by
  simp [State.pageDone]

@[simp] theorem layout_pageFault (s : State) : s.pageFault.layout = s.layout := by
  unfold State.pageFault
  dsimp only
  split <;> simp

@[simp] theorem layout_mediaError (s : State) (op : MediaOp) : (s.mediaError op).layout = s.layout := by
  unfold State.mediaError
  split <;> simp

end Sys2Proof.Machine
end

section
/-! SUPPORT. What the owners of the capsule kinds leave of the layout, and what a hand-over does with it. -/

namespace Sys2Proof.Machine

/-! ### Verdicts -/

/-- The state an owner's verdict leads to from `s` (R166 steps 6 to 8). -/
def Verdict.after (s : State) : Verdict → State
  | .refuse _ _ => s
  | .done _ _ t => t
  | .take _ _ _ t => t

@[simp] theorem Verdict.after_refuse (s : State) (code : Code) (l : List Byte) :
    (Verdict.refuse code l).after s = s := rfl

@[simp] theorem Verdict.after_done (s t : State) (code : Code) (l : List Byte) :
    (Verdict.done code l t).after s = t := rfl

@[simp] theorem Verdict.after_take (s t : State) (k : Nat) (w : Work) (l : List Byte) :
    (Verdict.take k w l t).after s = t := rfl

theorem layout_conclude (s : State) (c : Capsule) (v : Verdict) : (s.conclude c v).layout = (v.after s).layout := by
  cases v <;> simp [State.conclude]

/-- Of the layout, a hand-over leaves what it was or what the owner makes of it (R166). -/
theorem layout_handOver_cases (s : State) (h : HandOver) (k : Kind) (owner : Ctx → Req → State → Verdict) :
    (s.handOver h k owner).layout = s.layout ∨
      ∃ c q u, u.layout = s.layout ∧ (s.handOver h k owner).layout = ((owner c q u).after u).layout := by
  unfold State.handOver
  split
  · exact .inl rfl
  · next c _ =>
    split
    · exact .inl rfl
    · split
      · unfold State.judge
        dsimp only
        split
        · exact .inl (by simp)
        · split
          · exact .inl (by simp)
          · split
            · exact .inl (by simp)
            · split
              · exact .inl (by simp)
              · exact .inr ⟨_, _, _, layout_takeMark s c.master, layout_conclude _ _ _⟩
      · exact .inl rfl

/-- A hand-over leaves the layout where the owner does. -/
theorem layout_handOver {owner : Ctx → Req → State → Verdict}
    (ho : ∀ c q u, ((owner c q u).after u).layout = u.layout) (s : State) (h : HandOver) (k : Kind) :
    (s.handOver h k owner).layout = s.layout := by
  rcases layout_handOver_cases s h k owner with e | ⟨c, q, u, hu, e⟩
  · exact e
  · rw [e, ho, hu]

/-! ### The owners -/

theorem judgeOpen_layout (c : Ctx) (q : Req) (u : State) : ((judgeOpen c q u).after u).layout = u.layout := by
  have keyed (n : Node) (a b d e f : Nat) : ((judgeOpenKey u n a b d e f).after u).layout = u.layout := by
    unfold judgeOpenKey
    repeat' split
    all_goals simp [State.evict]
  unfold judgeOpen
  repeat' split
  all_goals simp [keyed]

theorem judgeAppend_layout (c : Ctx) (q : Req) (u : State) : ((judgeAppend c q u).after u).layout = u.layout := by
  unfold judgeAppend
  repeat' split
  all_goals simp

theorem judgeClose_layout (c : Ctx) (q : Req) (u : State) : ((judgeClose c q u).after u).layout = u.layout := by
  unfold judgeClose
  repeat' split
  all_goals simp

theorem judgeAbandon_layout (c : Ctx) (q : Req) (u : State) : ((judgeAbandon c q u).after u).layout = u.layout := by
  unfold judgeAbandon
  repeat' split
  all_goals simp

theorem judgeRead_layout (c : Ctx) (q : Req) (u : State) : ((judgeRead c q u).after u).layout = u.layout := by
  unfold judgeRead
  repeat' split
  all_goals simp

theorem judgeVerify_layout (c : Ctx) (q : Req) (u : State) : ((judgeVerify c q u).after u).layout = u.layout := by
  unfold judgeVerify
  repeat' split
  all_goals simp

theorem judgeQuery_layout (c : Ctx) (q : Req) (u : State) : ((judgeQuery c q u).after u).layout = u.layout := by
  unfold judgeQuery
  repeat' split
  all_goals rfl

theorem judgeFind_layout (c : Ctx) (q : Req) (u : State) : ((judgeFind c q u).after u).layout = u.layout := by
  unfold judgeFind
  repeat' split
  all_goals rfl

theorem judgeStatus_layout (c : Ctx) (q : Req) (u : State) : ((judgeStatus c q u).after u).layout = u.layout := by
  unfold judgeStatus
  repeat' split
  all_goals rfl

theorem judgeHoldList_layout (c : Ctx) (q : Req) (u : State) : ((judgeHoldList c q u).after u).layout = u.layout := by
  unfold judgeHoldList
  repeat' split
  all_goals rfl

theorem judgeClassGet_layout (c : Ctx) (q : Req) (u : State) : ((judgeClassGet c q u).after u).layout = u.layout := by
  unfold judgeClassGet
  repeat' split
  all_goals rfl

theorem judgeWindow_layout (c : Ctx) (q : Req) (u : State) : ((judgeWindow c q u).after u).layout = u.layout := by
  unfold judgeWindow
  split
  · exact layout_withLink u _ rfl rfl
  · rfl

theorem judgeEvents_layout (c : Ctx) (q : Req) (u : State) : ((judgeEvents c q u).after u).layout = u.layout := by
  unfold judgeEvents
  split <;> simp

theorem judgeRoute_layout (c : Ctx) (q : Req) (u : State) : ((judgeRoute c q u).after u).layout = u.layout := by
  unfold judgeRoute
  split
  · split
    · rfl
    · split
      · rfl
      · exact layout_withRouter u List.length_set
  · rfl

theorem judgeDispose_layout (c : Ctx) (q : Req) (u : State) : ((judgeDispose c q u).after u).layout = u.layout := by
  unfold judgeDispose
  dsimp only
  repeat' split
  all_goals simp

theorem judgeExtend_layout (c : Ctx) (q : Req) (u : State) : ((judgeExtend c q u).after u).layout = u.layout := by
  unfold judgeExtend
  dsimp only
  repeat' split
  all_goals simp

theorem judgeClassSet_layout (c : Ctx) (q : Req) (u : State) : ((judgeClassSet c q u).after u).layout = u.layout := by
  unfold judgeClassSet
  dsimp only
  repeat' split
  all_goals simp

theorem judgePolicyFix_layout (c : Ctx) (q : Req) (u : State) : ((judgePolicyFix c q u).after u).layout = u.layout := by
  unfold judgePolicyFix
  repeat' split
  all_goals simp

theorem judgeSplit_layout (c : Ctx) (q : Req) (u : State) : ((judgeSplit c q u).after u).layout = u.layout := by
  unfold judgeSplit
  repeat' split
  all_goals simp [State.beginSplit]

theorem judgeJournalRead_layout (c : Ctx) (q : Req) (u : State) :
    ((judgeJournalRead c q u).after u).layout = u.layout := by
  unfold judgeJournalRead
  repeat' split
  all_goals simp

end Sys2Proof.Machine
end

section
/-! SUPPORT. `Keeps s t` says that a step from `s` to `t` keeps the invariants of the layout, the settings, the clock, the
CMODE count and the holds; then what moves the clock, the CMODE count and the holds, and what start-up sets. -/

namespace Sys2Proof.Machine

variable {s t u : State}

/-- The invariants that O59 speaks of hold after a step if before it. The holds ask for no more of the clock than its
archive seconds, and so the relation is transitive. -/
structure Keeps (s t : State) : Prop where
  whole : s.Whole → t.Whole
  settings : s.settings.Sound → t.settings.Sound
  clock : s.settings.Sound → s.clock.Sound → t.clock.Sound
  seconds : s.clock.seconds ≤ Config.maxSeconds → t.clock.seconds ≤ Config.maxSeconds
  count : s.settings.Sound → s.cport.count < s.settings.cmodeN → t.cport.count < t.settings.cmodeN
  holds : s.clock.seconds ≤ Config.maxSeconds → s.holds.Sound s.clock.seconds → t.holds.Sound t.clock.seconds

theorem Keeps.trans (a : Keeps s t) (b : Keeps t u) : Keeps s u where
  whole h := b.whole (a.whole h)
  settings h := b.settings (a.settings h)
  clock h hc := b.clock (a.settings h) (a.clock h hc)
  seconds h := b.seconds (a.seconds h)
  count h hc := b.count (a.settings h) (a.count h hc)
  holds h hl := b.holds (a.seconds h) (a.holds h hl)

/-- The layout of a state is whole when its lengths are those of the manual. -/
theorem State.whole_iff (s : State) : s.Whole ↔
    (s.layout.windowA = 512 ∧ s.layout.slotsA = 8) ∧ (s.layout.windowB = 512 ∧ s.layout.slotsB = 8) ∧
      s.layout.portSlots = 2 ∧ s.layout.buffers = 2 ∧ s.layout.units = 4 ∧ s.layout.classes = 16 ∧
      s.layout.routes = 11 :=
  ⟨fun ⟨a, b, p, f, w, c, r⟩ => ⟨a, b, p, f, w, c, r⟩, fun ⟨a, b, p, f, w, c, r⟩ => ⟨a, b, p, f, w, c, r⟩⟩

/-- A step that changes of the layout only the clock, the CMODE count and the holds. -/
theorem Keeps.of_update {c : Clock} {n : Nat} {l : HoldList}
    (h : t.layout = { s.layout with clock := c, count := n, holds := l })
    (clock : s.settings.Sound → s.clock.Sound → c.Sound)
    (seconds : s.clock.seconds ≤ Config.maxSeconds → c.seconds ≤ Config.maxSeconds)
    (count : s.settings.Sound → s.cport.count < s.settings.cmodeN → n < s.settings.cmodeN)
    (holds : s.clock.seconds ≤ Config.maxSeconds → s.holds.Sound s.clock.seconds → l.Sound c.seconds) : Keeps s t := by
  have hs : t.settings = s.settings := congrArg Layout.settings h
  have hc : t.clock = c := congrArg Layout.clock h
  have hn : t.cport.count = n := congrArg Layout.count h
  have hl : t.holds = l := congrArg Layout.holds h
  refine ⟨fun w => ?_, ?_, ?_, ?_, ?_, ?_⟩
  · rw [State.whole_iff] at w ⊢
    rw [h]
    exact w
  · rw [hs]; exact id
  · rw [hc]; exact clock
  · rw [hc]; exact seconds
  · rw [hs, hn]; exact count
  · rw [hc, hl]; exact holds

theorem Keeps.of_layout (h : t.layout = s.layout) : Keeps s t :=
  .of_update h (fun _ h => h) id (fun _ h => h) fun _ h => h

theorem Keeps.refl (s : State) : Keeps s s := .of_layout rfl

/-- The same holds, at later archive seconds. -/
theorem HoldList.Sound.later {l : HoldList} {now late : Nat} (h : l.Sound now) (hn : now ≤ late) : l.Sound late where
  length := h.length
  matters := h.matters
  named := h.named
  order := h.order
  past x hx := (h.past x hx).trans hn

/-- A step that changes of the layout only the clock, whose archive seconds do not go back. -/
theorem Keeps.of_clock {c : Clock} (h : t.layout = { s.layout with clock := c })
    (clock : s.settings.Sound → s.clock.Sound → c.Sound)
    (seconds : s.clock.seconds ≤ Config.maxSeconds → s.clock.seconds ≤ c.seconds ∧ c.seconds ≤ Config.maxSeconds) :
    Keeps s t :=
  .of_update h clock (fun hs => (seconds hs).2) (fun _ h => h) fun hs hl => hl.later (seconds hs).1

theorem Keeps.of_count {n : Nat} (h : t.layout = { s.layout with count := n })
    (count : s.settings.Sound → s.cport.count < s.settings.cmodeN → n < s.settings.cmodeN) : Keeps s t :=
  .of_update h (fun _ h => h) id count fun _ h => h

theorem Keeps.of_holds {l : HoldList} (h : t.layout = { s.layout with holds := l })
    (holds : s.holds.Sound s.clock.seconds → l.Sound s.clock.seconds) : Keeps s t :=
  .of_update h (fun _ h => h) id (fun _ h => h) fun _ => holds

/-- A hand-over keeps the invariants where its owner does. -/
theorem keeps_handOver {owner : Ctx → Req → State → Verdict} (ho : ∀ c q u, Keeps u ((owner c q u).after u)) (s : State)
    (h : HandOver) (k : Kind) : Keeps s (s.handOver h k owner) := by
  rcases layout_handOver_cases s h k owner with e | ⟨c, q, u, hu, e⟩
  · exact .of_layout e
  · exact (Keeps.of_layout hu).trans ((ho c q u).trans (.of_layout e))

/-! ### The clock -/

/-- The step on archive seconds keeps the ranges (R90, R98). -/
theorem slew_sound {c : Clock} (h : c.Sound) : c.slew.Sound := by
  obtain ⟨hs, ha, hr, hx, hk, hh⟩ := h
  unfold Clock.slew
  split
  · exact ⟨hs, ha, hr, hx, hk, hh⟩
  · next room =>
    have step : c.seconds + 1 ≤ Config.maxSeconds := by omega
    split
    · exact ⟨Nat.min_le_left _ _, by dsimp only; omega, hr, by dsimp only; omega, hk, hh⟩
    · split
      · split
        · exact ⟨hs, ha, by dsimp only; omega, by dsimp only; omega, hk, hh⟩
        · exact ⟨step, ha, hr, hx, hk, hh⟩
      · exact ⟨step, ha, hr, hx, hk, hh⟩

/-- The holdover counter does not pass the holdover time (R100). -/
theorem age_sound {c : Clock} (h : c.Sound) {time : Nat} (ht : time ≤ 86400) : (c.age time).Sound := by
  obtain ⟨hs, ha, hr, hx, hk, hh⟩ := h
  unfold Clock.age
  split
  · exact ⟨hs, ha, hr, hx, hk, by dsimp only; omega⟩
  · exact ⟨hs, ha, hr, hx, hk, hh⟩

theorem Clock.Sound.withState {c : Clock} (h : c.Sound) (x : ClockState) : Clock.Sound { c with state := x } :=
  ⟨h.seconds, h.advance, h.retard, h.exclusive, h.streak, h.holdover⟩

theorem Clock.Sound.withTick {c : Clock} (h : c.Sound) (n : Nat) : Clock.Sound { c with tick := n } :=
  ⟨h.seconds, h.advance, h.retard, h.exclusive, h.streak, h.holdover⟩

theorem keeps_tickClock (s : State) : Keeps s s.tickClock :=
  .of_clock (c := { s.clock.slew.age s.settings.holdoverTime with tick := s.nextTick }) rfl
    (fun hs hc => (age_sound (slew_sound hc) hs.holdover.2).withTick _)
    fun h => by
      rw [slew_age_eq]
      exact slew_seconds s.clock h

theorem keeps_judgeHoldover (s : State) : Keeps s s.judgeHoldover := by
  unfold State.judgeHoldover
  split
  · exact .of_clock (layout_changeClock _ _) (fun _ hc => hc.withState _) fun h => ⟨le_rfl, h⟩
  · exact .refl s

theorem keeps_judgeTick (s : State) : Keeps s s.judgeTick := by
  refine (keeps_judgeHoldover s).trans (.of_layout ?_)
  rw [judgeTick_eq]
  simp

/-- A near mark sets at most 30 seconds of advance or of retard, and a far mark neither (R96, R97). -/
theorem onMark_sound {c : Clock} (h : c.Sound) (reference : Nat) : (c.onMark reference).Sound := by
  unfold Clock.onMark
  split
  · next near =>
    simp only [inRangeOffset, Bool.and_eq_true, decide_eq_true_eq] at near
    obtain ⟨low, high⟩ := near
    refine ⟨h.seconds, ?_, ?_, ?_, Nat.zero_le _, Nat.zero_le _⟩ <;> simp only [Clock.onNear]
    · split <;> omega
    · split <;> omega
    · by_cases ahead : 2 ≤ markOffset reference c.seconds
      · exact .inr (if_neg (by omega))
      · exact .inl (if_neg ahead)
  · exact ⟨h.seconds, h.advance, h.retard, h.exclusive, Nat.min_le_left _ _, h.holdover⟩

theorem judgeTime_keeps (c : Ctx) (q : Req) (u : State) : Keeps u ((judgeTime c q u).after u) := by
  unfold judgeTime
  split
  · next _ _ reference n _ =>
    split
    · exact .refl u
    · have taken : (u.withLink n { u.link n with spacing := some u.clock.tick }).layout = u.layout :=
        layout_withLink u n rfl rfl
      refine .of_clock (c := u.clock.onMark reference) ?_ (fun _ hc => onMark_sound hc reference) fun h => ?_
      · rw [Verdict.after_done, layout_changeClock, taken]
      · rw [onMark_seconds]
        exact ⟨le_rfl, h⟩
  · exact .refl u

/-- ADOPT steps forward to saturation, or sets the pending retard that R101 lets through (R102). -/
theorem adopted_sound {c : Clock} (h : c.Sound) {d : Int} (hd : -86400 ≤ d) : (c.adopted d).Sound := by
  refine ⟨?_, Nat.zero_le _, ?_, .inl rfl, Nat.zero_le _, Nat.zero_le _⟩ <;>
    simp only [Clock.adopted, adoptSeconds, adoptRetard]
  · split
    · exact Nat.min_le_left _ _
    · exact h.seconds
  · omega

theorem adopted_seconds {c : Clock} (h : c.seconds ≤ Config.maxSeconds) (d : Int) :
    c.seconds ≤ (c.adopted d).seconds ∧ (c.adopted d).seconds ≤ Config.maxSeconds := by
  simp only [Clock.adopted, adoptSeconds]
  split <;> omega

theorem judgeAdopt_keeps (c : Ctx) (q : Req) (u : State) : Keeps u ((judgeAdopt c q u).after u) := by
  unfold judgeAdopt
  split
  · split
    · exact .refl u
    · next m _ =>
      dsimp only
      split
      · exact .refl u
      · next backward =>
        split
        · exact .refl u
        · split
          · exact .refl u
          · have hd : -86400 ≤ markOffset m.reference m.receipt := Int.not_lt.1 backward
            exact .of_clock (c := u.clock.adopted (markOffset m.reference m.receipt)) (by simp [State.adopt])
              (fun _ hc => adopted_sound hc hd) fun h => adopted_seconds h _
  · exact .refl u

/-! ### The CMODE count (R178) -/

/-- A count that reaches N goes back to 0. -/
theorem turned_count (p : CPort) {n : Nat} (hn : 0 < n) : (p.turned n).count < n := by
  unfold CPort.turned
  split
  · exact hn
  · exact Nat.not_le.1 ‹_›

theorem sample_count (p : CPort) {n : Nat} (hn : 0 < n) (level : Role) : (p.sample n level).count < n := by
  unfold CPort.sample
  split
  · exact hn
  · split
    · exact turned_count _ hn
    · exact turned_count _ hn

theorem turned_lengths (p : CPort) (n : Nat) : (p.turned n).slots = p.slots ∧ (p.turned n).pageBuffers = p.pageBuffers := by
  unfold CPort.turned
  split <;> exact ⟨rfl, rfl⟩

theorem sample_lengths (p : CPort) (n : Nat) (level : Role) :
    (p.sample n level).slots = p.slots ∧ (p.sample n level).pageBuffers = p.pageBuffers := by
  unfold CPort.sample
  split
  · exact ⟨rfl, rfl⟩
  · split
    · exact turned_lengths _ n
    · exact turned_lengths _ n

/-- CPORT with the same slots and page buffers, and a CMODE count below N. -/
theorem keeps_withCport (s : State) {p : CPort} (h : p.slots = s.cport.slots ∧ p.pageBuffers = s.cport.pageBuffers)
    (count : 0 < s.settings.cmodeN → p.count < s.settings.cmodeN) : Keeps s (s.withCport p) :=
  .of_count (n := p.count) (by simp [State.layout, h]) fun hs _ => count (by have := hs.samples.1; omega)

/-! ### The holds (R121, R126 to R131) -/

/-- A matter without a position has no hold on the list. -/
theorem matter_of_find_eq_none {l : HoldList} {matter : Nat} (h : l.find matter = none) :
    matter ∉ l.list.map (·.matter) := by
  intro hm
  obtain ⟨x, hx, rfl⟩ := List.mem_map.1 hm
  cases hi : l.list.findIdx? (fun y => y.matter == x.matter) with
  | none => simpa using List.findIdx?_eq_none_iff.1 hi x hx
  | some k =>
    obtain ⟨hk, _⟩ := List.findIdx?_eq_some_iff_getElem.1 hi
    simp [HoldList.find, hi, hk] at h

/-- A hold of a matter without one joins the end of the list, placed now (R121, R126, R127). -/
theorem HoldList.Sound.placed {l : HoldList} {now matter : Nat} (h : l.Sound now) (hm : matter ≠ 0)
    (fresh : matter ∉ l.list.map (·.matter)) (room : l.list.length < Config.maxHolds) (scope : Scope)
    (late revision : Nat) : HoldList.Sound ⟨l.list ++ [⟨matter, now, scope, late⟩], revision⟩ now where
  length := by simpa using room
  matters := by
    rw [List.map_append, List.nodup_append]
    exact ⟨h.matters, List.nodup_singleton _, fun a ha b hb => by
      obtain rfl := List.mem_singleton.1 hb
      exact fun e => fresh (e ▸ ha)⟩
  named := by simpa [or_imp, forall_and] using ⟨h.named, hm⟩
  order := by
    rw [List.map_append, List.pairwise_append]
    exact ⟨h.order, List.pairwise_singleton _ _, by simpa using h.past⟩
  past := by simpa [or_imp, forall_and] using h.past

/-- A hold leaves the list, and the others keep their order (R131). -/
theorem HoldList.Sound.lifted {l : HoldList} {now : Nat} (h : l.Sound now) (k revision : Nat) :
    HoldList.Sound ⟨l.list.eraseIdx k, revision⟩ now where
  length := (List.length_eraseIdx_le _ _).trans h.length
  matters := h.matters.sublist ((List.eraseIdx_sublist _ _).map _)
  named x hx := h.named x ((List.eraseIdx_sublist _ _).subset hx)
  order := h.order.sublist ((List.eraseIdx_sublist _ _).map _)
  past x hx := h.past x ((List.eraseIdx_sublist _ _).subset hx)

/-- Of the layout, a placement changes the holds alone (R127, R128). -/
theorem layout_placeHold (s : State) (o : Origin) (matter : Nat) (scope : Scope) :
    (s.placeHold o matter scope).layout =
      { s.layout with holds := (s.addHold (s.newHold matter scope)).holds } := by
  have noted (u : State) (x : Option Extent) : (u.noteLate o matter x).layout = u.layout := by
    cases x <;> simp [State.noteLate]
  simp [State.placeHold, noted, State.addHold]

theorem judgeHoldPlace_keeps (c : Ctx) (q : Req) (u : State) : Keeps u ((judgeHoldPlace c q u).after u) := by
  unfold judgeHoldPlace
  split
  · next matter scope =>
    split
    · exact .refl u
    · next hm =>
      split
      · exact .refl u
      · split
        · exact .refl u
        · next hf =>
          split
          · exact .refl u
          · next room =>
            split
            · exact .refl u
            · split
              · exact .refl u
              · exact .of_holds (layout_placeHold u _ matter scope) fun hl =>
                  hl.placed hm (matter_of_find_eq_none hf) (Nat.not_le.1 room) scope _ _
  · exact .refl u

theorem judgeHoldLift_keeps (c : Ctx) (q : Req) (u : State) : Keeps u ((judgeHoldLift c q u).after u) := by
  unfold judgeHoldLift
  split
  · split
    · exact .refl u
    · split
      · exact .refl u
      · next k h _ =>
        split
        · exact .refl u
        · split
          · exact .refl u
          · exact .of_holds (l := ⟨u.holds.list.eraseIdx k, nextRevision u.holds.revision⟩) (by simp [State.liftHold])
              fun hl => hl.lifted k _
  · exact .refl u

end Sys2Proof.Machine
end

section
/-! SUPPORT. The rows that write a link or reset it, power and start-up; then every command, and the statement. -/

namespace Sys2Proof.Machine

variable {s t : State}

/-! ### The links (R165, R173) -/

theorem keeps_withLink (s : State) (n : Node) {l : LinkState} (h : (s.link n).whole → l.whole) :
    Keeps s (s.withLink n l) where
  whole w := by
    cases n with
    | a => exact { w with linkA := h w.linkA }
    | b => exact { w with linkB := h w.linkB }
  settings := by simp
  clock := by simp
  seconds := by simp
  count := by simp
  holds := by simp

/-- A write inside the window leaves its length (R165). -/
theorem storeBytes_length {window : List Byte} {offset : Nat} {bytes : List Byte}
    (h : offset + bytes.length ≤ window.length) : (storeBytes window offset bytes).length = window.length := by
  simp only [storeBytes, List.length_append, List.length_take, List.length_drop]
  omega

theorem keeps_writeWindow (s : State) (n : Node) {offset : Nat} {bytes : List Byte}
    (h : insideWindow offset bytes = true) : Keeps s (s.writeWindow n offset bytes) := by
  have inside : offset + bytes.length ≤ 512 := of_decide_eq_true (Bool.and_eq_true_iff.1 h).2
  exact keeps_withLink s n fun ⟨hw, hs⟩ => ⟨(storeBytes_length (by rw [hw]; exact inside)).trans hw, hs⟩

theorem keeps_resetLink (s : State) (n : Node) : Keeps s (s.resetLink n) := by
  have slots (l : List SlotRef) (u : State) : (l.foldl State.resetSlot u).layout = u.layout := by
    induction l generalizing u with
    | nil => rfl
    | cons x l ih => rw [List.foldl_cons, ih, layout_resetSlot]
  have emptied (u : State) (out : List Host.Cell) : Keeps u (u.withLink n ((u.link n).afterReset out)) :=
    keeps_withLink u n fun h => ⟨List.length_replicate, h.2⟩
  have before : Keeps s ((linkSlots n).foldl State.resetSlot s) := .of_layout (slots _ s)
  unfold State.resetLink
  dsimp only
  generalize (linkSlots n).foldl State.resetSlot s = u at before
  refine before.trans ?_
  generalize (s.link n).cutTransfers _ = out
  have queue : Keeps u (u.withEngine { u.engine with queue := u.engine.queue.map (QueueEntry.orphan n) }) :=
    .of_layout rfl
  refine queue.trans ((emptied _ out).trans (.of_layout ?_))
  rw [layout_withFreeCount, layout_clearSet]

/-! ### Power and start-up -/

/-- The clock after a reset has its archive seconds alone (R105). -/
theorem clock_reset_sound {n : Nat} (h : n ≤ Config.maxSeconds) : (Clock.reset n).Sound :=
  ⟨h, Nat.zero_le _, Nat.zero_le _, .inl rfl, Nat.zero_le _, Nat.zero_le _⟩

theorem keeps_volatileReset (s : State) (p : Phase) : Keeps s (s.volatileReset p) where
  whole w := { whole_reset with classes := w.classes }
  settings _ := settings_sound_reset
  clock _ h := clock_reset_sound h.seconds
  seconds := id
  count _ _ := Nat.succ_pos 3
  holds _ := id

theorem clamp_bounds {low high : Nat} (h : low ≤ high) (v : Nat) : low ≤ clamp low high v ∧ clamp low high v ≤ high := by
  unfold clamp
  omega

/-- What the loader has set lies in its ranges, with a route for each event class and all sixteen classes (R183). -/
structure Loaded.Sound (l : Loaded) : Prop where
  settings : l.settings.Sound
  routes : l.routes.length = 11
  classes : l.classes.length = 16

theorem Loaded.defaults_sound : Loaded.defaults.Sound := ⟨settings_sound_reset, rfl, rfl⟩

theorem Settings.Sound.withSkipped {c : Settings} (h : c.Sound) (n : Nat) : Settings.Sound { c with skipped := n } :=
  ⟨h.address, h.samples, h.openTime, h.holdover, h.partialPage⟩

/-- An address in the range of R183 fits its seven bits. -/
theorem address_bounds (v : Nat) :
    0x08 ≤ (BitVec.ofNat 7 (clamp 0x08 0x77 v)).toNat ∧ (BitVec.ofNat 7 (clamp 0x08 0x77 v)).toNat ≤ 0x77 := by
  obtain ⟨low, high⟩ := clamp_bounds (show 0x08 ≤ 0x77 by decide) v
  rw [BitVec.toNat_ofNat, Nat.mod_eq_of_lt (by omega)]
  exact ⟨low, high⟩

/-- Each entry sets one value inside its range (R183, 13.7). -/
theorem Loaded.Sound.apply {l : Loaded} (h : l.Sound) (marker : Bool) (e : List Byte) : (l.apply marker e).Sound := by
  obtain ⟨⟨ha, hn, ho, hh, hp⟩, hr, hc⟩ := h
  have bounds {low high : Nat} (h : low ≤ high) := clamp_bounds h (field 4 4 e)
  unfold Loaded.apply
  dsimp only
  split
  · exact ⟨⟨address_bounds _, hn, ho, hh, hp⟩, hr, hc⟩
  · exact ⟨⟨ha, bounds (by decide), ho, hh, hp⟩, hr, hc⟩
  · exact ⟨⟨ha, hn, bounds (by decide), hh, hp⟩, hr, hc⟩
  · exact ⟨⟨ha, hn, ho, bounds (by decide), hp⟩, hr, hc⟩
  · exact ⟨⟨ha, hn, ho, hh, bounds (by decide)⟩, hr, hc⟩
  · exact ⟨⟨ha, hn, ho, hh, hp⟩, hr, hc⟩
  · split
    · exact ⟨⟨ha, hn, ho, hh, hp⟩, List.length_set.trans hr, hc⟩
    · exact ⟨⟨ha, hn, ho, hh, hp⟩, hr, hc⟩
  · split <;> exact ⟨⟨ha, hn, ho, hh, hp⟩, hr, hc⟩
  · split <;> exact ⟨⟨ha, hn, ho, hh, hp⟩, hr, hc⟩
  · split <;> exact ⟨⟨ha, hn, ho, hh, hp⟩, hr, hc⟩
  · split <;> exact ⟨⟨ha, hn, ho, hh, hp⟩, hr, hc⟩
  · split
    · exact ⟨⟨ha, hn, ho, hh, hp⟩, hr, hc⟩
    · split
      · exact ⟨⟨ha, hn, ho, hh, hp⟩, hr, List.length_set.trans hc⟩
      · exact ⟨⟨ha, hn, ho, hh, hp⟩, hr, hc⟩
  · exact ⟨⟨ha, hn, ho, hh, hp⟩, hr, hc⟩

theorem Loaded.Sound.read {l : Loaded} (h : l.Sound) (marker : Bool) (n : Nat) (image : List Byte) :
    (Loaded.read marker n image l).Sound := by
  induction n generalizing image l with
  | zero => exact h
  | succ n ih =>
    unfold Loaded.read
    dsimp only
    split
    · exact h
    · split
      · exact h
      · exact ih (h.apply marker _) _

theorem loadImage_sound (marker : Bool) (image : List Byte) : (loadImage marker image).Sound := by
  unfold loadImage
  split
  · exact Loaded.defaults_sound
  · exact Loaded.defaults_sound.read _ _ _

/-- The part with the settings and routes of its image (R183). -/
theorem keeps_loaded (s : State) (env : StartEnv) : Keeps s (s.loaded env) := by
  obtain ⟨hs, hr, _⟩ := loadImage_sound s.marker env.image
  exact (keeps_volatileReset s .startup).trans
    { whole w := { w with routes := hr }
      settings _ := hs
      clock _ := id
      seconds := id
      count _ _ := Nat.lt_of_lt_of_le (Nat.succ_pos 1) hs.samples.1
      holds _ := id }

theorem keeps_initializeTables (s : State) {l : Loaded} (hl : l.Sound) {array base pages lost : Nat}
    (h : l.journalRegion (min array Config.numbersEnd) = some (base, pages, lost)) :
    Keeps s (s.initializeTables l array) := by
  rw [initializeTables_some h]
  exact {
    whole w := { w with classes := hl.classes }
    settings hs := hs.withSkipped _
    clock _ _ := clock_sound_reset
    seconds _ := Nat.zero_le _
    count _ := id
    holds _ _ := holds_sound_reset _ }

theorem layout_recover (s : State) (cause : Cause) (initialized : Bool) :
    (s.recover cause initialized).layout = s.layout := by
  have told : s.recoverJournal.layout = s.layout := by
    rcases s.recoverJournal_cases with h | ⟨c, m, h⟩ | h <;> rw [h] <;> simp
  have recovered : s.journalRecovered.layout = s.layout := by simp [State.journalRecovered, told]
  rw [recover_eq]
  exact recovered

theorem keeps_startUp (s : State) (cause : Cause) (env : StartEnv) : Keeps s (s.startUp cause env) := by
  rcases startUp_cases s cause env with ⟨_, h⟩ | ⟨_, h⟩ | ⟨base, pages, lost, _, hr, h⟩ <;> rw [h]
  · exact (keeps_loaded s env).trans (.of_layout (layout_recover _ _ _))
  · exact keeps_loaded s env
  · exact (keeps_loaded s env).trans ((keeps_initializeTables _ (loadImage_sound false env.image) hr).trans
      (.of_layout (layout_recover _ _ _)))

/-! ### Every command -/

/-- A command keeps the invariants in whatever state it leads to. -/
def Preserves (s : State) (o : Host.Outcome State Fault Refusal) : Prop := ∀ t, o = .next t → Keeps s t

theorem Preserves.next (h : Keeps s t) : Preserves s (.next t) := by
  intro u hu
  cases hu
  exact h

theorem Preserves.layout (h : t.layout = s.layout) : Preserves s (.next t) := .next (.of_layout h)

theorem Preserves.stay (s : State) : Preserves s (.next s) := .next (.refl s)

/-- A row that acts under a condition. -/
theorem Preserves.ite {c : Prop} [Decidable c] (h : Keeps s t) : Preserves s (if c then .next t else .next s) := by
  split
  · exact .next h
  · exact .stay s

theorem preserves_handOver {owner : Ctx → Req → State → Verdict}
    (ho : ∀ c q u, ((owner c q u).after u).layout = u.layout) (s : State) (h : HandOver) (k : Kind) :
    Preserves s (.next (s.handOver h k owner)) := .layout (layout_handOver ho s h k)

theorem preserves_powerOn (env : StartEnv) (s : State) : Preserves s (execPowerOn env s) := by
  unfold execPowerOn
  split
  · exact .next (keeps_startUp s _ env)
  · exact .stay s

theorem preserves_resetNRelease (env : StartEnv) (s : State) : Preserves s (execResetNRelease env s) := by
  unfold execResetNRelease
  split
  · exact .next (keeps_startUp s _ env)
  · exact .stay s

theorem preserves_recoveryVoid (s : State) : Preserves s (execRecoveryVoid s) := by
  unfold execRecoveryVoid
  split
  · exact .layout (by simp)
  · exact .stay s

theorem preserves_start (s : State) : Preserves s (execStart s) := by
  unfold execStart
  split
  · exact .layout (by simp)
  · exact .stay s

theorem preserves_capsuleWindowWrite (n : Node) (offset : Nat) (bytes : List Byte) (s : State) :
    Preserves s (execCapsuleWindowWrite n offset bytes s) := by
  unfold execCapsuleWindowWrite
  split
  · intro t h
    cases h
  · next inside => exact .ite (keeps_writeWindow s n (by simpa using inside))

theorem preserves_noCapsule (r : ReceiptRead) (s : State) : Preserves s (execNoCapsule r s) := by
  unfold execNoCapsule
  split
  · exact .ite (keeps_withLink s _ id)
  · exact .ite (.of_layout (by simp))

theorem preserves_split (h : HandOver) (s : State) : Preserves s (execSplit h s) := by
  have judged : (s.handOver h .split judgeSplit).layout = s.layout := layout_handOver judgeSplit_layout s h _
  unfold execSplit
  dsimp only
  split <;> exact .layout (by simp [judged])

theorem preserves_mediaAnswerLimit (s : State) : Preserves s (execMediaAnswerLimit s) := by
  unfold execMediaAnswerLimit
  split
  · exact .ite (.of_layout (by simp))
  · exact .stay s

theorem preserves_dmaReadTimeout (n : Node) (slot sent : Nat) (s : State) :
    Preserves s (execDmaReadTimeout n slot sent s) := by
  unfold execDmaReadTimeout
  split
  · exact .ite (.of_layout (by simp))
  · exact .ite (.of_layout (by simp))
  · exact .stay s

theorem preserves_readersDrained (s : State) : Preserves s (execReadersDrained s) := by
  unfold execReadersDrained
  split
  · exact .ite (.of_layout (by simp))
  · exact .stay s

/-! ### The rows that end an operation of the array or a transfer -/

theorem preserves_appendProgramOk (s : State) : Preserves s (execAppendProgramOk s) := by
  unfold execAppendProgramOk
  split <;> exact .layout (by simp)

theorem preserves_appendProgramMediaError (s : State) : Preserves s (execAppendProgramMediaError s) := by
  unfold execAppendProgramMediaError
  split <;> exact .layout (by simp)

theorem preserves_trailerOk (s : State) : Preserves s (execTrailerOk s) := by
  unfold execTrailerOk
  split <;> exact .layout (by simp)

theorem preserves_trailerMediaError (s : State) : Preserves s (execTrailerMediaError s) := by
  unfold execTrailerMediaError
  split <;> exact .layout (by simp)

theorem preserves_readFetchMediaError (s : State) : Preserves s (execReadFetchMediaError s) := by
  unfold execReadFetchMediaError
  split <;> exact .layout (by simp)

theorem preserves_verifyFetchMediaError (s : State) : Preserves s (execVerifyFetchMediaError s) := by
  unfold execVerifyFetchMediaError
  split <;> exact .layout (by simp)

theorem preserves_scrubCompleteOk (s : State) : Preserves s (execScrubCompleteOk s) := by
  unfold execScrubCompleteOk
  split <;> exact .layout (by simp)

theorem preserves_scrubMediaError (s : State) : Preserves s (execScrubMediaError s) := by
  unfold execScrubMediaError
  split <;> exact .layout (by simp)

theorem preserves_journalWriteOk (s : State) : Preserves s (execJournalWriteOk s) := by
  unfold execJournalWriteOk
  split <;> exact .layout (by simp)

theorem preserves_journalWriteMediaError (s : State) : Preserves s (execJournalWriteMediaError s) := by
  unfold execJournalWriteMediaError
  split <;> exact .layout (by simp)

theorem preserves_readFetchOk (data : List Byte) (s : State) : Preserves s (execReadFetchOk data s) := by
  unfold execReadFetchOk
  split
  · exact .ite (.of_layout (by simp))
  · exact .stay s

theorem preserves_verifyFetchOk (data : List Byte) (s : State) : Preserves s (execVerifyFetchOk data s) := by
  unfold execVerifyFetchOk
  split
  · exact .ite (.of_layout (by simp))
  · exact .stay s

theorem preserves_journalReadFetchDone (page : Option (List Byte)) (s : State) :
    Preserves s (execJournalReadFetchDone page s) := by
  unfold execJournalReadFetchDone
  split
  · exact .ite (.of_layout (by simp))
  · exact .stay s

theorem preserves_fetchComplete (n : Node) (k : Nat) (l : List (List Byte)) (s : State) :
    Preserves s (execFetchComplete n k l s) := by
  unfold execFetchComplete
  split
  · exact .ite (.of_layout (by simp))
  · exact .stay s

theorem preserves_fetchFailed (n : Node) (k : Nat) (s : State) : Preserves s (execFetchFailed n k s) := by
  unfold execFetchFailed
  split
  · exact .ite (.of_layout (by simp))
  · exact .stay s

theorem preserves_readDmaComplete (n : Node) (k : Nat) (s : State) : Preserves s (execReadDmaComplete n k s) := by
  unfold execReadDmaComplete
  split
  · exact .ite (.of_layout (by simp))
  · exact .stay s

theorem preserves_readDmaFailed (n : Node) (k placed : Nat) (s : State) :
    Preserves s (execReadDmaFailed n k placed s) := by
  unfold execReadDmaFailed
  split
  · exact .ite (.of_layout (by simp))
  · exact .stay s

/-! ### The statement -/

theorem exec_preserves (i : Instr) (s : State) : Preserves s (exec i s) := by
  cases i with
  | powerOn env => exact preserves_powerOn env s
  | resetNAssert => exact .ite (keeps_volatileReset s _)
  | resetNRelease env => exact preserves_resetNRelease env s
  | powerLoss => exact .next (keeps_volatileReset s _)
  | recoveryVoid => exact preserves_recoveryVoid s
  | start => exact preserves_start s
  | linkReset n => exact .ite (keeps_resetLink s n)
  | linkUp n => exact .ite (keeps_withLink s n id)
  | msiEnableWrite n e => exact .ite (keeps_withLink s n id)
  | capsuleWindowWrite n offset bytes => exact preserves_capsuleWindowWrite n offset bytes s
  | noCapsule r => exact preserves_noCapsule r s
  | badKind h => exact .layout (layout_refuseKind s h)
  | cportPartialCapsule _ _ => exact .stay s
  | cportReceiptRead _ len => exact .ite (.of_layout (layout_readReceipt s len))
  | roleChange => exact .ite (keeps_withCport s (turned_lengths _ _) (turned_count _))
  | cmodeSample low => exact .ite (keeps_withCport s (sample_lengths _ _ _) fun hn => sample_count _ hn _)
  | openExtent h => exact preserves_handOver judgeOpen_layout s h _
  | append h => exact preserves_handOver judgeAppend_layout s h _
  | close h => exact preserves_handOver judgeClose_layout s h _
  | abandon h => exact preserves_handOver judgeAbandon_layout s h _
  | read h => exact preserves_handOver judgeRead_layout s h _
  | verify h => exact preserves_handOver judgeVerify_layout s h _
  | query h => exact preserves_handOver judgeQuery_layout s h _
  | find h => exact preserves_handOver judgeFind_layout s h _
  | status h => exact preserves_handOver judgeStatus_layout s h _
  | window h => exact preserves_handOver judgeWindow_layout s h _
  | time h => exact .next (keeps_handOver judgeTime_keeps s h _)
  | events h => exact preserves_handOver judgeEvents_layout s h _
  | dispose h => exact preserves_handOver judgeDispose_layout s h _
  | holdPlace h => exact .next (keeps_handOver judgeHoldPlace_keeps s h _)
  | holdLift h => exact .next (keeps_handOver judgeHoldLift_keeps s h _)
  | holdList h => exact preserves_handOver judgeHoldList_layout s h _
  | extend h => exact preserves_handOver judgeExtend_layout s h _
  | classSet h => exact preserves_handOver judgeClassSet_layout s h _
  | classGet h => exact preserves_handOver judgeClassGet_layout s h _
  | policyFix h => exact preserves_handOver judgePolicyFix_layout s h _
  | adopt h => exact .next (keeps_handOver judgeAdopt_keeps s h _)
  | route h => exact preserves_handOver judgeRoute_layout s h _
  | split h => exact preserves_split h s
  | journalRead h => exact preserves_handOver judgeJournalRead_layout s h _
  | tick => exact .ite ((keeps_tickClock s).trans (keeps_judgeTick _))
  | holdover => exact .ite (keeps_judgeHoldover s)
  | partialPageTime => exact .ite (.of_layout (layout_judgePage s))
  | coalescedClockState => exact .ite (.of_layout (by simp))
  | openTimeoutDue k => exact .layout (layout_judgeTimer s k)
  | openTimeout k => exact .layout (layout_grantPlace s _)
  | mediaFaultVoid k => exact .layout (layout_grantPlace s _)
  | integrityRecord ref => exact .layout (layout_grantPlace s _)
  | disposed => exact .layout (layout_grantPlace s _)
  | disposalFailed => exact .layout (layout_grantPlace s _)
  | splitApply => exact .layout (layout_grantPlace s _)
  | splitTimeout => exact .ite (.of_layout (layout_failSplit s _))
  | headTake => exact .ite (.of_layout (layout_takeHead s))
  | readersDrained => exact preserves_readersDrained s
  | mediaAnswerLimit => exact preserves_mediaAnswerLimit s
  | dmaReadTimeout n k sent => exact preserves_dmaReadTimeout n k sent s
  | fetchComplete n k l => exact preserves_fetchComplete n k l s
  | fetchFailed n k => exact preserves_fetchFailed n k s
  | appendProgramOk => exact preserves_appendProgramOk s
  | appendProgramMediaError => exact preserves_appendProgramMediaError s
  | trailerOk => exact preserves_trailerOk s
  | trailerMediaError => exact preserves_trailerMediaError s
  | readFetchOk data => exact preserves_readFetchOk data s
  | readFetchMediaError => exact preserves_readFetchMediaError s
  | readDmaComplete n k => exact preserves_readDmaComplete n k s
  | readDmaFailed n k placed => exact preserves_readDmaFailed n k placed s
  | verifyFetchOk data => exact preserves_verifyFetchOk data s
  | verifyFetchMediaError => exact preserves_verifyFetchMediaError s
  | journalReadFetchDone page => exact preserves_journalReadFetchDone page s
  | scrubCompleteOk => exact preserves_scrubCompleteOk s
  | scrubMediaError => exact preserves_scrubMediaError s
  | journalWriteOk => exact preserves_journalWriteOk s
  | journalWriteMediaError => exact preserves_journalWriteMediaError s

/-- Settles O59: the front command keeps the invariants (`exec_preserves`), and taking it off the queue touches none of
them. -/
theorem layoutClockAndHoldsAreKept : Obligations.LayoutClockAndHoldsAreKept := by
  intro s t h
  have kept : Keeps s t := by
    unfold step at h
    split at h
    · cases h
      exact .refl s
    · next c rest _ => exact Keeps.trans (t := s.withPending rest) (.of_layout rfl) (exec_preserves c _ t h)
  exact ⟨kept.whole, kept.settings, kept.clock, kept.count, fun hc => kept.holds hc.seconds⟩

end Sys2Proof.Machine
end

section
/-! SUPPORT. Archive time as its owner judges it: time marks (R94 to R97), ADOPT (R101, R102), and the record of a change of
clock state (R103, R156). -/

namespace Sys2Proof.Machine

/-! ### Time marks -/

theorem inRangeOffset_eq (d : Int) : inRangeOffset d = decide (-30 ≤ d ∧ d ≤ 30) := (Bool.decide_and _ _).symm

/-- The third far mark in a row makes the clock DRIFT (R97). -/
theorem onFar_eq (c : Clock) (reference : Nat) :
    c.onFar reference = { c with
      streak := min 3 (c.streak + 1), farMark := some ⟨reference, c.seconds⟩
      state := if 2 ≤ c.streak then .drift else c.state } := by
  have third : min 3 (c.streak + 1) = 3 ↔ 2 ≤ c.streak := by omega
  simp only [Clock.onFar, third]

@[simp] theorem spacing_takeMark (s : State) (m : Master) (n : Node) :
    ((s.takeMark m).link n).spacing = (s.link n).spacing := by
  cases m with
  | cport => rfl
  | node k => cases k <;> cases n <;> rfl

/-- A mark within 16 ticks of its link's last taken one is absorbed (R94). -/
theorem spaced_takeMark (s : State) (m : Master) (n : Node) :
    (s.takeMark m).spaced n = (s.link n).spacing.any (fun t => decide (s.clock.tick < t + 16)) := by
  unfold State.spaced
  rw [spacing_takeMark]
  cases (s.link n).spacing <;> simp [Config.markTicks]

/-- Settles O44: the spacing first, then the two classes of an offset (`onFar_eq`). -/
theorem timeMarksSteerTheClock : Obligations.TimeMarksSteerTheClock := by
  intro s h c n reference hc R k d near k'
  have hnear : inRangeOffset d = near := inRangeOffset_eq d
  have hclock : k.onMark reference = k' := by
    unfold Clock.onMark
    rw [show inRangeOffset (markOffset reference k.seconds) = near from hnear, onFar_eq]
    rfl
  have hand : exec (.time h) s = .next ((s.takeMark c.master).conclude c
      (judgeTime (Ctx.of s c []) (.time reference) (s.takeMark c.master))) :=
    congrArg _ (State.handOver_of_reaches R judgeTime)
  have hmaster : (Ctx.of s c []).master = .node n := hc
  rw [hand]
  unfold judgeTime
  simp only [hmaster, spaced_takeMark, State.takeMark_frame]
  split
  · rw [State.conclude_done]
    rfl
  · rw [State.conclude_done, hclock, ← hnear]
    rfl

/-! ### ADOPT -/

theorem adoptRetard_eq (d : Int) : adoptRetard d = if d < 0 then (-d).toNat else 0 := by
  unfold adoptRetard
  split <;> omega

/-- What an ADOPT that is taken makes of the part (R102, R103; log 25). -/
theorem adopt_eq (s : State) (o : Origin) (m : FarMark) (d : Int) : s.adopt o m d =
    (((s.withClock ⟨adoptSeconds s.clock.seconds d, s.clock.tick, .locked, 0, adoptRetard d, false, 0, none,
      0⟩).raise .clockState none).record o (.clockAdopted s.clock.seconds (adoptSeconds s.clock.seconds d) d
        (adoptRetard d) m)).judgePage := by
  simp [State.adopt, Clock.adopted]

/-- Settles O45: the far mark of a DRIFT clock, the checks one after the other, then `adopt_eq`. -/
theorem adoptActsOnTheFarMark : Obligations.AdoptActsOnTheFarMark := by
  intro s h c R no
  have hand : exec (.adopt h) s = .next ((s.takeMark c.master).conclude c
      (judgeAdopt (Ctx.of s c []) .adopt (s.takeMark c.master))) :=
    congrArg _ (State.handOver_of_reaches R judgeAdopt)
  have hno (code : Code) : .next ((s.takeMark c.master).conclude c (.refuse code [])) = no code :=
    congrArg _ (State.conclude_refuse s c code [])
  rw [hand]
  simp only [judgeAdopt, State.takeMark_frame]
  by_cases hdrift : s.clock.state = .drift
  swap
  · rw [show s.clock.adoptable = none from if_neg hdrift, if_pos hdrift]
    exact hno _
  rw [show s.clock.adoptable = s.clock.farMark from if_pos hdrift, if_neg (not_not.2 hdrift)]
  cases s.clock.farMark with
  | none => exact hno _
  | some m =>
    dsimp only
    rw [show markOffset m.reference m.receipt = (m.reference : Int) - (m.receipt : Int) from rfl,
      show (Config.backwardLimit : Int) = 86400 from rfl]
    generalize (m.reference : Int) - (m.receipt : Int) = d
    by_cases hback : d < -86400
    · rw [if_pos hback, if_pos hback, hno]
    rw [if_neg hback, if_neg hback]
    by_cases hbacklog : 56 ≤ s.journal.buffer.length
    · rw [if_pos hbacklog, if_pos (by exact decide_eq_true hbacklog), hno]
    rw [if_neg hbacklog, if_neg (by rw [Journal.backlog, decide_eq_true_eq]; exact hbacklog)]
    by_cases hfull : s.journal.pages ≤ s.journal.counter
    · rw [if_pos hfull, if_pos (by exact decide_eq_true hfull), hno]
    rw [if_neg hfull, if_neg (by rw [Journal.full, decide_eq_true_eq]; exact hfull), State.conclude_done, adopt_eq,
      adoptRetard_eq, show (s.takeMark c.master).clock = s.clock by simp]
    rfl

/-! ### Changes of clock state -/

/-- A change with a free place is entered; one without is counted in the mark, or as an overflow in a full region
(R103, R156, R161). -/
theorem recordChange_eq {u : State} {j : Journal} {after : ClockState} (hj : u.journal = j)
    (hc : u.clock.state = after) (before : ClockState) : u.recordChange before = match j.mark with
    | some m => u.withJournal { j with mark := some ⟨m.before, m.count + 1⟩ }
    | none =>
      if j.buffer.length < 64 then (u.record .device (.clockState before after 1)).judgePage
      else if j.pages ≤ j.counter then u.withJournal { j with overflow := min (j.overflow + 1) 4294967295 }
      else u.withJournal { j with mark := some ⟨before, 1⟩ } := by
  subst hj hc
  have place : u.journal.hasPlace = decide (u.journal.buffer.length < 64) := rfl
  have full : u.journal.full = decide (u.journal.pages ≤ u.journal.counter) := rfl
  unfold State.recordChange
  cases hm : u.journal.mark with
  | some m => rfl
  | none =>
    simp only [place, full, decide_eq_true_eq]
    by_cases room : u.journal.buffer.length < 64
    · simp only [if_pos room, State.record, place, decide_eq_true_eq]
    · rw [if_neg room, if_neg room, ← hm]
      rfl

/-- Settles O46: a change by `recordChange_eq`, the coalesced record by `grantMark_eq`. -/
theorem clockChangesAreRecorded : Obligations.ClockChangesAreRecorded := by
  refine ⟨fun s k => ⟨fun hk => if_pos hk, fun hk => ?_⟩, fun s hlive => ⟨fun m hm hp => ?_, fun hp => ?_⟩⟩
  · intro u
    have hc : s.changeClock k = u.recordChange s.clock.state := if_neg hk
    exact hc.trans (recordChange_eq (by simp [u]) (by simp [u]) _)
  · intro u
    have hg : s.grantMark = u.withJournal { u.journal with mark := none } := by
      rw [grantMark_eq, hm]
      exact if_pos hp
    have act : execCoalescedClockState s = .next s.grantMark.judgePage :=
      if_pos (by rw [hlive, hm, (takesNow_iff _).2 hp]; rfl)
    exact act.trans (by rw [hg])
  · refine if_neg fun act => ?_
    simp only [Bool.and_eq_true, takesNow_iff, Option.isSome_iff_ne_none] at act
    obtain ⟨⟨_, hm⟩, room⟩ := act
    rcases hp with hp | ⟨hfull, hpages⟩
    · exact hm hp
    · omega

end Sys2Proof.Machine
end

section
/-! SUPPORT. What a fixed policy binds an extent to (R112, R115, R118): the relation `TermsKept s t`, which says that between
`s` and `t` no retained extent loses its class or comes to expire earlier under any class entry, and that a fixed class table
only tightens; the changes of one record that keep it; and the shared operations, in the order of Machine/Ops.lean and
Machine/Places.lean. -/

namespace Sys2Proof.Machine

/-! ### The terms of a record and of a class -/

/-- A retained record stays retained in its class, to expire under no class entry earlier than before, or becomes a tombstone,
which a tombstone stays (R6, R115). -/
structure Extent.Binds (a b : Extent) : Prop where
  retained : a.retained = true →
    b.tombstone = true ∨ b.retained = true ∧ b.cls = a.cls ∧ ∀ e, expiryDay e a ≤ expiryDay e b
  tombstone : a.tombstone = true → b.tombstone = true

/-- A defined class entry that is no looser than another (R112). -/
structure ClassEntry.TightenedTo (a b : ClassEntry) : Prop where
  defined : b.defined = true
  period : a.period ≤ b.period
  permanent : a.permanent = true → b.permanent = true

/-- Between two states no extent loses its terms: its record keeps them, and so do the defined classes of a fixed policy. -/
structure TermsKept (s t : State) : Prop where
  records : ∀ n a, s.extent n = some a → ∃ b, t.extent n = some b ∧ a.Binds b
  latch : s.classes.fixed = true → t.classes.fixed = true
  classes : s.classes.fixed = true → ∀ c, (s.classEntry c).defined = true →
    (s.classEntry c).TightenedTo (t.classEntry c)

/-- The terms are read from the records and the class table. -/
@[simp] def State.SameTerms (s t : State) : Prop := t.et.records = s.et.records ∧ t.classes = s.classes

variable {s t u : State}

theorem Extent.Binds.refl (a : Extent) : a.Binds a := ⟨fun h => .inr ⟨h, rfl, fun _ => le_rfl⟩, id⟩

theorem Extent.Binds.trans {a b c : Extent} (x : a.Binds b) (y : b.Binds c) : a.Binds c where
  retained h := by
    rcases x.retained h with hb | ⟨hb, hcls, hday⟩
    · exact .inl (y.tombstone hb)
    · rcases y.retained hb with hc | ⟨hc, hcls', hday'⟩
      · exact .inl hc
      · exact .inr ⟨hc, hcls'.trans hcls, fun e => (hday e).trans (hday' e)⟩
  tombstone h := y.tombstone (x.tombstone h)

theorem retained_not_tombstone {r : Extent} (h : r.retained = true) : r.tombstone = false := by
  unfold Extent.retained at h
  unfold Extent.tombstone
  cases hs : r.state <;> simp_all

theorem writing_not_settled {r : Extent} (h : r.writing = true) : r.retained = false ∧ r.tombstone = false := by
  unfold Extent.writing at h
  unfold Extent.retained Extent.tombstone
  cases hs : r.state <;> simp_all

/-- An extent being written is bound to nothing yet. -/
theorem Extent.Binds.of_writing {a : Extent} (b : Extent) (h : a.writing = true) : a.Binds b where
  retained hr := by rw [(writing_not_settled h).1] at hr; cases hr
  tombstone ht := by rw [(writing_not_settled h).2] at ht; cases ht

/-- The effective expiry day reads the commit second and the floor (R115). -/
theorem expiryDay_congr {a b : Extent} (hc : b.commitSecond = a.commitSecond) (hf : b.floor = a.floor) (e : ClassEntry) :
    expiryDay e b = expiryDay e a := by
  rw [expiryDay, expiryDay, Extent.commitDay, Extent.commitDay, hc, hf]

/-- A change within the retained states that leaves class, commit second and floor. -/
theorem Extent.Binds.of_same {a b : Extent} (ha : a.retained = true) (hb : b.retained = true) (hcls : b.cls = a.cls)
    (hc : b.commitSecond = a.commitSecond) (hf : b.floor = a.floor) : a.Binds b where
  retained _ := .inr ⟨hb, hcls, fun e => (expiryDay_congr hc hf e).ge⟩
  tombstone ht := by rw [retained_not_tombstone ha] at ht; cases ht

/-- A retained extent becomes a tombstone (R6). -/
theorem Extent.Binds.of_tombstone {a b : Extent} (hb : b.tombstone = true) : a.Binds b := ⟨fun _ => .inl hb, fun _ => hb⟩

/-- A tightened class expires no record earlier (R112, R115). -/
theorem expiryDay_mono {a b : ClassEntry} (h : a.TightenedTo b) (r : Extent) : expiryDay a r ≤ expiryDay b r := by
  have hp := h.period
  have hperm := h.permanent
  unfold expiryDay
  cases hf : r.floor == some Config.permanentDay
  · cases hb : b.permanent
    · have ha : a.permanent = false := by
        cases ha : a.permanent with
        | false => rfl
        | true => rw [hperm ha] at hb; cases hb
      simp only [ha, Bool.or_false, Bool.false_eq_true, if_false]
      omega
    · simp only [Bool.true_or, if_true, Config.permanentDay, Config.capDay]
      split <;> omega
  · simp

theorem ClassEntry.TightenedTo.refl {a : ClassEntry} (h : a.defined = true) : a.TightenedTo a := ⟨h, le_rfl, id⟩

theorem ClassEntry.TightenedTo.trans {a b c : ClassEntry} (x : a.TightenedTo b) (y : b.TightenedTo c) : a.TightenedTo c :=
  ⟨y.defined, x.period.trans y.period, fun h => y.permanent (x.permanent h)⟩

/-! ### The relation between states -/

theorem classEntry_congr (h : t.classes.entries = s.classes.entries) : t.classEntry = s.classEntry := by
  funext c
  rw [State.classEntry, State.classEntry, h]

/-- Every record is changed as it may be, and the class entries stand. -/
theorem TermsKept.of_records (h : ∀ n a, s.extent n = some a → ∃ b, t.extent n = some b ∧ a.Binds b)
    (hc : t.classes = s.classes) : TermsKept s t where
  records := h
  latch hs := by rw [hc]; exact hs
  classes _ c hd := by rw [classEntry_congr (s := s) (t := t) (by rw [hc])]; exact .refl hd

/-- A step that leaves the records and the class table alone. -/
theorem TermsKept.frame (h : s.SameTerms t) : TermsKept s t :=
  .of_records (fun n a ha => ⟨a, by rw [State.extent_congr h.1]; exact ha, .refl a⟩) h.2

theorem TermsKept.refl (s : State) : TermsKept s s := .frame ⟨rfl, rfl⟩

theorem TermsKept.trans (x : TermsKept s t) (y : TermsKept t u) : TermsKept s u where
  records n a ha := by
    obtain ⟨b, hb, hab⟩ := x.records n a ha
    obtain ⟨c, hc, hbc⟩ := y.records n b hb
    exact ⟨c, hc, hab.trans hbc⟩
  latch h := y.latch (x.latch h)
  classes h c hd := by
    have first := x.classes h c hd
    exact first.trans (y.classes (x.latch h) c first.defined)

theorem TermsKept.foldl {α : Type} {f : State → α → State} (hf : ∀ s a, TermsKept s (f s a)) (l : List α)
    (s : State) : TermsKept s (l.foldl f s) := by
  induction l generalizing s with
  | nil => exact .refl s
  | cons a l ih => exact (hf s a).trans (ih _)

/-- An extent retained on both sides expires no earlier after than before (R115). -/
theorem TermsKept.expiry_le (h : TermsKept s t) (fixed : s.classes.fixed = true) {n : Nat} {a b : Extent}
    (ha : s.extent n = some a) (ra : a.retained = true) (hb : t.extent n = some b) (rb : b.retained = true)
    (defined : (s.classEntry a.cls).defined = true) : s.expiry a ≤ t.expiry b := by
  obtain ⟨b', hb', binds⟩ := h.records n a ha
  obtain rfl : b = b' := Option.some.inj (hb.symm.trans hb')
  rcases binds.retained ra with tomb | ⟨_, hcls, hday⟩
  · rw [retained_not_tombstone rb] at tomb
    cases tomb
  · calc s.expiry a
        ≤ expiryDay (t.classEntry a.cls) a := expiryDay_mono (h.classes fixed _ defined) a
      _ ≤ expiryDay (t.classEntry a.cls) b := hday _
      _ = t.expiry b := by rw [State.expiry, hcls]

/-! ### Changes of records -/

/-- A change of a record that keeps its number and its terms. -/
structure Extent.Lawful (f : Extent → Extent) : Prop where
  number : ∀ r, (f r).number = r.number
  binds : ∀ r : Extent, r.Binds (f r)

/-- A change of the records of one number is judged by the one record that is found. -/
theorem TermsKept.modFound {k : Nat} {f : Extent → Extent} (hn : ∀ r, (f r).number = r.number)
    (hf : ∀ r, s.extent k = some r → r.Binds (f r)) : TermsKept s (s.modExtent k f) := by
  refine .of_records (fun n a ha => ?_) (by simp)
  refine ⟨_, by rw [State.extent_modExtent s k hn, ha]; rfl, ?_⟩
  split
  · next h => exact hf a (h ▸ ha)
  · exact .refl a

theorem TermsKept.modExtent (s : State) (k : Nat) {f : Extent → Extent} (hf : Extent.Lawful f) :
    TermsKept s (s.modExtent k f) := .modFound hf.number fun r _ => hf.binds r

/-- A step that changes one record lawfully, and beside it neither records nor classes. -/
theorem TermsKept.change (k : Nat) {f : Extent → Extent} (hf : Extent.Lawful f) (h : (s.modExtent k f).SameTerms t) :
    TermsKept s t := (TermsKept.modExtent s k hf).trans (.frame h)

/-- A change that acts under a condition. -/
theorem lawful_ite {c : Extent → Prop} [DecidablePred c] {g : Extent → Extent} (hn : ∀ r, (g r).number = r.number)
    (hg : ∀ r, c r → r.Binds (g r)) : Extent.Lawful (fun r => if c r then g r else r) where
  number r := by split <;> simp [hn]
  binds r := by
    split
    · next h => exact hg r h
    · exact .refl r

theorem quietOpen_writing {r : Extent} (h : r.quietOpen = true) : r.writing = true := by
  simp only [Extent.quietOpen, Bool.and_eq_true, beq_iff_eq] at h
  rw [Extent.writing, h.1]

theorem disposing_retained {r : Extent} (h : r.state = .disposing) : r.retained = true := by rw [Extent.retained, h]

theorem lawful_beginAppend : Extent.Lawful Extent.beginAppend :=
  lawful_ite (fun _ => rfl) fun _ h => .of_writing _ (quietOpen_writing h)

theorem lawful_closing : Extent.Lawful Extent.closing :=
  lawful_ite (fun _ => rfl) fun _ h => .of_writing _ (quietOpen_writing h)

theorem lawful_endFetch (tick : Nat) : Extent.Lawful (Extent.endFetch tick) :=
  lawful_ite (fun _ => rfl) fun r h => .of_writing _ (by simp_all [Extent.writing])

theorem lawful_appended (blocks tick : Nat) (data : List Byte) : Extent.Lawful (Extent.appended blocks tick data) :=
  lawful_ite (fun _ => rfl) fun r h => .of_writing _ (by simp_all [Extent.writing])

theorem lawful_commit (second : Nat) (clock : ClockState) : Extent.Lawful (Extent.commit second clock) :=
  lawful_ite (fun _ => rfl) fun r h => .of_writing _ (by simp_all [Extent.writing])

theorem lawful_void (cause : VoidCause) (seq : Option Nat) : Extent.Lawful (Extent.void cause seq) :=
  lawful_ite (fun _ => rfl) fun _ h => .of_writing _ h

theorem lawful_verified (x : Integrity) (second : Nat) : Extent.Lawful (Extent.verified x second) :=
  lawful_ite (fun _ => rfl) fun _ h => .of_same h h rfl rfl rfl

theorem lawful_queue : Extent.Lawful Extent.queue :=
  lawful_ite (fun _ => rfl) fun r h => .of_same (by rcases h with h | h <;> rw [Extent.retained, h]) rfl rfl rfl rfl

theorem lawful_headTaken : Extent.Lawful Extent.headTaken :=
  lawful_ite (fun _ => rfl) fun r h => by
    have hr : r.retained = true := disposing_retained (by simp_all)
    exact .of_same hr hr rfl rfl rfl

theorem lawful_scrubIssued : Extent.Lawful Extent.scrubIssued :=
  lawful_ite (fun _ => rfl) fun r h => by
    have hr : r.retained = true := disposing_retained (by simp_all)
    exact .of_same hr hr rfl rfl rfl

theorem lawful_scrubFailed : Extent.Lawful Extent.scrubFailed :=
  lawful_ite (fun _ => rfl) fun r h => by
    have hr : r.retained = true := disposing_retained (isScrubbing_state h)
    exact .of_same hr hr rfl rfl rfl

theorem lawful_returned : Extent.Lawful Extent.returned :=
  lawful_ite (fun _ => rfl) fun _ h => .of_same (disposing_retained (returnable_state h)) rfl rfl rfl rfl

theorem lawful_failDisposal : Extent.Lawful Extent.failDisposal :=
  lawful_ite (fun _ => rfl) fun _ h => .of_same (disposing_retained (isScrubbing_state h)) rfl rfl rfl rfl

theorem lawful_release (second : Nat) (seq : Option Nat) : Extent.Lawful (Extent.release second seq) :=
  lawful_ite (fun _ => rfl) fun _ _ => .of_tombstone rfl

theorem lawful_recovered (exhausted : Bool) : Extent.Lawful (Extent.recovered exhausted) :=
  lawful_ite (fun r => by split <;> rfl) fun r h => by
    have hr : r.retained = true := disposing_retained h
    split
    · exact .of_same hr rfl rfl rfl rfl
    · exact .of_same hr hr rfl rfl rfl

end Sys2Proof.Machine
end

section
/-! SUPPORT. The shared operations keep the terms of every extent, in the order of Machine/Ops.lean and Machine/Places.lean. -/

namespace Sys2Proof.Machine

variable {s t u : State}

/-! ### The disposal queue and the issue of operations -/

theorem terms_setStage (s : State) (g : Stage) : TermsKept s (s.setStage g) := .frame (by simp)

theorem terms_returnEntry (s : State) (e : QueueEntry) : TermsKept s (s.returnEntry e) := by
  unfold State.returnEntry
  split
  · exact .change e.ext lawful_returned (by simp)
  · exact .refl s

theorem terms_returnHead (s : State) : TermsKept s s.returnHead := by
  unfold State.returnHead
  split
  · exact .refl s
  · exact (terms_returnEntry s _).trans (terms_setStage _ _)

theorem terms_returnQueue (s : State) : TermsKept s s.returnQueue := by
  unfold State.returnQueue
  split
  · exact .foldl terms_returnEntry _ _
  · exact .foldl terms_returnEntry _ _
  · exact (TermsKept.frame (t := s.withMedia _) (by simp)).trans
      ((TermsKept.foldl terms_returnEntry _ _).trans (terms_setStage _ _))

theorem terms_exhaust (s : State) : TermsKept s s.exhaust :=
  (TermsKept.frame (t := s.failSplit _) (by simp)).trans (terms_returnQueue _)

theorem terms_issuePage (s : State) (op : MediaOp) : TermsKept s (s.issuePage op) := by
  unfold State.issuePage
  dsimp only
  split
  · refine TermsKept.trans (.frame ?_) (terms_exhaust _)
    split <;> simp
  · refine .frame ?_
    split <;> simp

theorem terms_issueScrub (s : State) (op : MediaOp) (n : Nat) : TermsKept s (s.issueScrub op n) := by
  unfold State.issueScrub
  split
  · exact .change n lawful_scrubIssued (by simp [State.modExtent])
  · exact terms_returnHead s

theorem terms_issue (s : State) (op : MediaOp) : TermsKept s (s.issue op) := by
  unfold State.issue
  split
  · exact .frame (by simp)
  · exact .frame (by simp)
  · exact .frame (by simp)
  · exact .frame (by simp)
  · exact .frame (by simp)
  · exact terms_issueScrub s op _
  · exact terms_issuePage s op

/-! ### Placing and granting -/

theorem terms_grant (s : State) : TermsKept s s.grant := by
  unfold State.grant
  split
  · exact .refl s
  · exact (TermsKept.frame (t := s.withMedia _) (by simp)).trans (terms_issue _ _)

theorem terms_place (s : State) (op : MediaOp) : TermsKept s (s.place op) := by
  unfold State.place
  dsimp only
  split
  · exact (TermsKept.frame (t := s.withMedia _) (by simp)).trans (terms_grant _)
  · exact .frame (by simp)

theorem terms_complete (s : State) : TermsKept s s.complete :=
  (TermsKept.frame (t := s.withMedia _) (by simp)).trans (terms_grant _)

theorem terms_judgePage (s : State) : TermsKept s s.judgePage := by
  rcases s.judgePage_cases with h | ⟨_, h⟩ <;> rw [h]
  · exact .refl s
  · exact terms_place s _

theorem terms_judgeSince (t s : State) : TermsKept t (t.judgeSince s) := by
  rcases t.judgeSince_cases s with h | h <;> rw [h]
  · exact .refl t
  · exact terms_judgePage t

theorem terms_recordChange (s : State) (before : ClockState) : TermsKept s (s.recordChange before) := by
  unfold State.recordChange
  split
  · exact .frame (by simp)
  · split
    · exact (TermsKept.frame (t := s.enter _ _) (by simp)).trans (terms_judgePage _)
    · split <;> exact .frame (by simp)

theorem terms_changeClock (s : State) (c : Clock) : TermsKept s (s.changeClock c) := by
  unfold State.changeClock
  split
  · exact .frame (by simp)
  · exact (TermsKept.frame (t := (s.withClock c).raise .clockState none) (by simp)).trans (terms_recordChange _ _)

/-! ### What is done at the grant of a place -/

theorem terms_voidExtent (s : State) (r : Extent) (o : Origin) (cause : VoidCause) :
    TermsKept s (s.voidExtent r o cause) := by
  unfold State.voidExtent
  split
  · exact .change r.number (lawful_void cause s.journal.nextPlace) (by simp [State.modExtent])
  · exact .refl s

theorem terms_settleMediaFault (s : State) (k : Nat) : TermsKept s (s.settleMediaFault k) := by
  unfold State.settleMediaFault
  split
  · exact .refl s
  · next r _ => exact (terms_voidExtent s r .device .mediaFault).trans (.frame (by simp))

theorem terms_settleOpenTimeout (s : State) (k : Nat) : TermsKept s (s.settleOpenTimeout k) := by
  unfold State.settleOpenTimeout
  split
  · exact .refl s
  · next r _ => exact (terms_voidExtent s r .device .timeout).trans (.frame (by simp))

theorem terms_settleRecovery (s : State) (n : Nat) : TermsKept s (s.settleRecovery n) := by
  unfold State.settleRecovery
  split
  · exact .refl s
  · next r _ => exact (terms_voidExtent s r .device .interrupted).trans (.frame (by simp))

theorem terms_settleIntegrity (s : State) (ref : SlotRef) : TermsKept s (s.settleIntegrity ref) := by
  unfold State.settleIntegrity
  split
  · exact .refl s
  · next w _ =>
    split
    · exact .change w.ext (lawful_verified .damaged s.clock.seconds) (by simp [State.modExtent])
    · exact .refl s

theorem terms_settleDisposed (s : State) : TermsKept s s.settleDisposed := by
  unfold State.settleDisposed
  split
  · exact .refl s
  · next e _ _ =>
    split
    · exact .refl s
    · split
      · exact .change e.ext (lawful_release s.clock.seconds s.journal.nextPlace) (by simp [State.modExtent])
      · exact .refl s

theorem terms_settleDisposalFailed (s : State) : TermsKept s s.settleDisposalFailed := by
  unfold State.settleDisposalFailed
  split
  · exact .refl s
  · next e _ _ =>
    split
    · exact .refl s
    · split
      · exact .change e.ext lawful_failDisposal (by simp [State.modExtent])
      · exact .refl s

theorem terms_settle (s : State) (r : PlaceRequest) : TermsKept s (s.settle r) := by
  unfold State.settle
  split
  · exact terms_settleRecovery s _
  · exact .frame (by simp)
  · exact terms_settleMediaFault s _
  · exact terms_settleOpenTimeout s _
  · exact terms_settleIntegrity s _
  · exact terms_settleDisposed s
  · exact terms_settleDisposalFailed s
  · exact .frame (by simp)

theorem terms_request (s : State) (r : PlaceRequest) : TermsKept s (s.request r) := by
  rcases s.request_cases r with ⟨_, h⟩ | ⟨_, h⟩ <;> rw [h]
  · exact (terms_settle s r).trans (terms_judgePage _)
  · exact .frame (by simp)

theorem terms_grantPlace (s : State) (r : PlaceRequest) : TermsKept s (s.grantPlace r) := by
  rcases s.grantPlace_cases r with ⟨_, h⟩ | ⟨_, h⟩ <;> rw [h]
  · exact (TermsKept.frame (t := s.dropWait r) (by simp)).trans ((terms_settle _ r).trans (terms_judgePage _))
  · exact .refl s

theorem terms_grantWaits (n : Nat) (s : State) : TermsKept s (s.grantWaits n) := by
  induction n generalizing s with
  | zero => exact .refl s
  | succ n ih =>
    unfold State.grantWaits
    split
    · exact .refl s
    · split
      · exact (TermsKept.frame (t := s.dropWait _) (by simp)).trans ((terms_settle _ _).trans (ih _))
      · exact .refl s

theorem terms_grantPlaces (s : State) : TermsKept s s.grantPlaces :=
  (TermsKept.frame (t := s.grantMark) (by simp)).trans (terms_grantWaits _ _)

/-! ### Operations of the families -/

theorem terms_beginAppend (s : State) (r : Extent) (blocks : Nat) : TermsKept s (s.beginAppend r blocks) :=
  .change r.number lawful_beginAppend (by simp [State.beginAppend, State.modExtent])

theorem terms_beginClose (s : State) (r : Extent) : TermsKept s (s.beginClose r) :=
  (TermsKept.change (t := (s.modExtent r.number Extent.closing).takeStore r.store
    (.held (trailer r r.closingCheck s.clock.seconds s.clock.state))) r.number lawful_closing (by simp)).trans
    (terms_place _ _)

theorem terms_failFetch (s : State) (ext : Nat) : TermsKept s (s.failFetch ext) := by
  unfold State.failFetch
  split
  · exact .refl s
  · exact .change ext (lawful_endFetch s.clock.tick) (by simp [State.modExtent])

theorem terms_fetchFault (s : State) (ref : SlotRef) (ext : Nat) : TermsKept s (s.fetchFault ref ext) :=
  (terms_failFetch s ext).trans (.frame (by simp [State.fetchFault]))

theorem terms_fetched (s : State) (ref : SlotRef) (h : Held) (w : AppendWork) (data : List Byte) :
    TermsKept s (s.fetched ref h w data) := by
  unfold State.fetched
  split
  · exact .refl s
  · exact (TermsKept.frame (t := (s.setSlot ref _).setUnit _ (.held data) .idle) (by simp)).trans (terms_place _ _)

theorem terms_appendDone (s : State) (k blocks : Nat) : TermsKept s (s.appendDone k blocks) := by
  unfold State.appendDone
  split
  · exact .refl s
  · next r _ => exact .change r.number (lawful_appended blocks s.clock.tick (s.unit k).staging.data) (by simp)

theorem terms_trailerDone (s : State) (k : Nat) : TermsKept s (s.trailerDone k) := by
  unfold State.trailerDone
  split
  · exact .refl s
  · next r _ =>
    split
    · exact (TermsKept.change r.number (lawful_commit s.clock.seconds s.clock.state) (by simp)).trans
        (terms_judgeSince _ _)
    · exact .refl s

theorem terms_judgeTimer (s : State) (k : Nat) : TermsKept s (s.judgeTimer k) := by
  unfold State.judgeTimer
  split
  · exact (TermsKept.frame (t := s.setUnit k _ .due) (by simp)).trans (terms_request _ _)
  · exact .refl s

theorem terms_damaged (s : State) (ref : SlotRef) (w : VerifyWork) (d : Damage) : TermsKept s (s.damaged ref w d) :=
  (TermsKept.frame (t := s.setVerify ref _) (by simp)).trans (terms_request _ _)

theorem terms_verifyMatch (s : State) (ref : SlotRef) (w : VerifyWork) (check : Word32) :
    TermsKept s (s.verifyMatch ref w check) :=
  .change w.ext (lawful_verified .good s.clock.seconds) (by simp [State.verifyMatch])

theorem terms_verifyFetched (s : State) (ref : SlotRef) (blocks : Nat) (data : List Byte) :
    TermsKept s (s.verifyFetched ref blocks data) := by
  unfold State.verifyFetched
  split
  · exact .refl s
  · split
    · exact .refl s
    · dsimp only
      split
      · exact (TermsKept.frame (t := s.setVerify ref _) (by simp)).trans (terms_place _ _)
      · split
        · exact terms_verifyMatch s _ _ _
        · exact terms_damaged s _ _ _

theorem terms_verifyFault (s : State) (ref : SlotRef) (blocks : Nat) : TermsKept s (s.verifyFault ref blocks) := by
  unfold State.verifyFault
  split
  · exact .refl s
  · exact terms_damaged s _ _ _

theorem terms_resetSlot (s : State) (ref : SlotRef) : TermsKept s (s.resetSlot ref) := by
  unfold State.resetSlot
  split
  · split
    · exact .frame (by simp)
    · split <;> exact .frame (by simp)
  · exact .frame (by simp)
  · next w _ =>
    split
    · exact (terms_failFetch s w.ext).trans (.frame (by simp))
    · exact .frame (by simp)
  · exact .frame (by simp)
  · exact .frame (by simp)
  · exact .refl s

theorem terms_resetLink (s : State) (n : Node) : TermsKept s (s.resetLink n) :=
  (TermsKept.foldl terms_resetSlot (linkSlots n) s).trans (.frame (by simp [State.resetLink]))

theorem terms_classifyAll (m : Master) (slot : Option SlotRef) (l : List Nat) (s : State) (t : Tally) :
    TermsKept s (State.classifyAll m slot l s t).1 := by
  induction l generalizing s t with
  | nil => exact .refl s
  | cons n ns ih =>
    unfold State.classifyAll
    split
    · exact .refl s
    · split
      · exact (TermsKept.change n lawful_queue (by simp [State.enqueue])).trans (ih _ _)
      · exact ih s _

theorem terms_placeScrub (s : State) (n : Nat) : TermsKept s (s.placeScrub n) := by
  unfold State.placeScrub
  split
  · exact .refl s
  · split
    · exact (terms_setStage s .placed).trans (terms_place _ _)
    · exact terms_returnHead s

theorem terms_takeHead (s : State) : TermsKept s s.takeHead := by
  unfold State.takeHead
  split
  · exact .refl s
  · next e _ _ =>
    dsimp only
    split
    · exact .change e.ext lawful_headTaken (by simp)
    · exact (TermsKept.modExtent s _ lawful_headTaken).trans (terms_placeScrub _ _)

theorem terms_scrubFault (s : State) (n : Nat) : TermsKept s (s.scrubFault n) := by
  unfold State.scrubFault
  split
  · exact .refl s
  · split
    · dsimp only
      split
      · exact (TermsKept.modExtent s _ lawful_scrubFailed).trans (terms_returnHead _)
      · exact (TermsKept.modExtent s _ lawful_scrubFailed).trans (terms_placeScrub _ _)
    · exact (terms_setStage s .recording).trans (terms_request _ _)

theorem terms_judgeHoldover (s : State) : TermsKept s s.judgeHoldover := by
  unfold State.judgeHoldover
  split
  · exact terms_changeClock s _
  · exact .refl s

theorem terms_judgeTick (s : State) : TermsKept s s.judgeTick :=
  (terms_judgeHoldover s).trans ((TermsKept.foldl terms_judgeTimer _ _).trans (terms_judgePage _))

theorem terms_pageDone (s : State) : TermsKept s s.pageDone :=
  (TermsKept.frame (t := (s.withJournal s.journal.pageWritten).judgeFull) (by simp)).trans
    ((terms_grantPlaces _).trans (terms_judgePage _))

theorem terms_pageFault (s : State) : TermsKept s s.pageFault := by
  unfold State.pageFault
  dsimp only
  refine (TermsKept.frame (t := (s.withJournal s.journal.pageFaulted).judgeFull) (by simp)).trans
    (TermsKept.trans ?_ (terms_judgePage _))
  split
  · exact terms_grantPlaces _
  · exact .refl _

theorem terms_mediaError (s : State) (op : MediaOp) : TermsKept s (s.mediaError op) := by
  unfold State.mediaError
  split
  · exact terms_request s _
  · exact terms_request s _
  · exact .frame (by simp)
  · exact terms_verifyFault s _ _
  · exact .frame (by simp)
  · exact terms_scrubFault s _
  · exact terms_pageFault s

/-! ### Start-up of a marked part -/

theorem terms_recoverJournal (s : State) : TermsKept s s.recoverJournal := by
  have cut : TermsKept s (s.withJournal s.journal.cutOff) := .frame (by simp)
  rcases s.recoverJournal_cases with h | ⟨c, m, h⟩ | h <;> rw [h]
  · exact cut
  · exact cut.trans (.frame (by simp))
  · exact cut.trans (terms_exhaust _)

/-- Every record is recovered, and beside it neither records nor classes change (R10). -/
theorem terms_extentsRecovered (s : State) : TermsKept s s.extentsRecovered := by
  refine .of_records (fun n a ha => ?_) (by simp [State.extentsRecovered])
  exact ⟨_, (find?_map_number _ _ (number_recovered s.journal.exhausted) n).trans (congrArg _ ha),
    (lawful_recovered s.journal.exhausted).binds a⟩

theorem terms_recover (s : State) (cause : Cause) (initialized : Bool) : TermsKept s (s.recover cause initialized) :=
  (terms_recoverJournal s).trans ((terms_judgePage _).trans ((terms_extentsRecovered s.journalRecovered).trans
    (.frame (by simp [recover_eq, State.extentsRecovered]))))

/-- A start-up of an initialized part reads its table memory and recovers it (R184, R185). -/
theorem terms_startUp (h : s.marker = true) (cause : Cause) (env : StartEnv) : TermsKept s (s.startUp cause env) := by
  rw [startUp_marked cause env h]
  have loaded : TermsKept s (s.loaded env) := .frame ⟨rfl, rfl⟩
  exact loaded.trans (terms_recover _ cause false)

end Sys2Proof.Machine
end

section
/-! SUPPORT. What a fixed policy promises, command by command: first what the owners of the capsule kinds answer, then the rows
that are no capsules, and at last the statement that no retained extent comes to expire earlier (R112, R115, R118). -/

namespace Sys2Proof.Machine

variable {s t u : State}

/-! ### Capsules -/

/-- The state a verdict leads to, if any, is as `R` says. -/
def Verdict.Yields (R : State → Prop) : Verdict → Prop
  | .refuse _ _ => True
  | .done _ _ t => R t
  | .take _ _ _ t => R t

@[simp] theorem Verdict.yields_refuse (R : State → Prop) (code : Code) (fields : List Byte) :
    (Verdict.refuse code fields).Yields R := trivial

@[simp] theorem Verdict.yields_done (R : State → Prop) (code : Code) (fields : List Byte) (t : State) :
    (Verdict.done code fields t).Yields R ↔ R t := .rfl

theorem Verdict.Yields.mono {R S : State → Prop} {v : Verdict} (h : v.Yields R) (hRS : ∀ t, R t → S t) :
    v.Yields S := by
  cases v with
  | refuse code fields => trivial
  | done code fields t => exact hRS t h
  | take k w fields t => exact hRS t h

/-- The steps around the owner's verdict touch neither records nor classes: what holds of them before the hand-over and after
each verdict holds after the capsule's step (R166, R177). -/
theorem handOver_yields {R : State → Prop} (same : ∀ t u : State, t.SameTerms u → R t → R u) (hs : R s) (h : HandOver)
    (k : Kind) {owner : Ctx → Req → State → Verdict} (ho : ∀ x q u, s.SameTerms u → (owner x q u).Yields R) :
    R (s.handOver h k owner) := by
  unfold State.handOver
  split
  · exact hs
  · next c _ =>
    split
    · exact hs
    · split
      · have marked : s.SameTerms (s.takeMark c.master) := by simp
        have hm : R (s.takeMark c.master) := same _ _ marked hs
        unfold State.judge
        dsimp only
        split
        · exact same _ _ (by simp) hm
        · split
          · exact same _ _ (by simp) hm
          · split
            · exact same _ _ (by simp) hm
            · split
              · exact same _ _ (by simp) hm
              · generalize hv : owner _ _ _ = v
                have yields : v.Yields R := hv ▸ ho _ _ _ marked
                cases v with
                | refuse code fields => exact same _ _ (by simp [State.conclude]) hm
                | done code fields t => exact same _ _ (by simp [State.conclude]) yields
                | take i w fields t => exact same _ _ (by simp [State.conclude]) yields
      · exact hs

/-- A capsule's step keeps the terms when its owner's verdicts do. -/
theorem terms_handOver (s : State) (h : HandOver) (k : Kind) {owner : Ctx → Req → State → Verdict}
    (ho : ∀ x q u, (owner x q u).Yields (TermsKept u)) : TermsKept s (s.handOver h k owner) :=
  handOver_yields (fun _ _ same kept => kept.trans (.frame same)) (.refl s) h k fun x q u same =>
    (ho x q u).mono fun _ kept => (TermsKept.frame same).trans kept

/-! ### Kinds that only report, links, routes and splits -/

theorem judgeQuery_terms (x : Ctx) (q : Req) (u : State) : (judgeQuery x q u).Yields (TermsKept u) := by
  unfold judgeQuery
  repeat' split
  all_goals simp [TermsKept.refl]

theorem judgeFind_terms (x : Ctx) (q : Req) (u : State) : (judgeFind x q u).Yields (TermsKept u) := by
  unfold judgeFind
  repeat' split
  all_goals simp [TermsKept.refl]

theorem judgeStatus_terms (x : Ctx) (q : Req) (u : State) : (judgeStatus x q u).Yields (TermsKept u) := by
  unfold judgeStatus
  repeat' split
  all_goals simp [TermsKept.refl]

theorem judgeHoldList_terms (x : Ctx) (q : Req) (u : State) : (judgeHoldList x q u).Yields (TermsKept u) := by
  unfold judgeHoldList
  repeat' split
  all_goals simp [TermsKept.refl]

theorem judgeClassGet_terms (x : Ctx) (q : Req) (u : State) : (judgeClassGet x q u).Yields (TermsKept u) := by
  unfold judgeClassGet
  repeat' split
  all_goals simp [TermsKept.refl]

theorem judgeWindow_terms (x : Ctx) (q : Req) (u : State) : (judgeWindow x q u).Yields (TermsKept u) := by
  unfold judgeWindow
  split
  · exact TermsKept.frame (by simp)
  · simp

theorem judgeEvents_terms (x : Ctx) (q : Req) (u : State) : (judgeEvents x q u).Yields (TermsKept u) := by
  unfold judgeEvents
  split
  · exact TermsKept.frame (by simp)
  · simp

theorem judgeRoute_terms (x : Ctx) (q : Req) (u : State) : (judgeRoute x q u).Yields (TermsKept u) := by
  unfold judgeRoute
  repeat' split
  all_goals first
    | exact TermsKept.frame (by simp)
    | exact Verdict.yields_refuse _ _ _

theorem judgeSplit_terms (x : Ctx) (q : Req) (u : State) : (judgeSplit x q u).Yields (TermsKept u) := by
  have begun (k n : Nat) : TermsKept u (u.beginSplit k n) := .frame (by simp [State.beginSplit])
  unfold judgeSplit
  repeat' split
  all_goals first
    | exact begun _ _
    | exact Verdict.yields_refuse _ _ _

theorem judgeJournalRead_terms (x : Ctx) (q : Req) (u : State) : (judgeJournalRead x q u).Yields (TermsKept u) := by
  unfold judgeJournalRead
  repeat' split
  all_goals first
    | exact terms_place u _
    | exact TermsKept.refl u
    | exact Verdict.yields_refuse _ _ _

/-! ### Writing and reading -/

theorem judgeAppend_terms (x : Ctx) (q : Req) (u : State) : (judgeAppend x q u).Yields (TermsKept u) := by
  unfold judgeAppend
  repeat' split
  all_goals first
    | exact terms_beginAppend u _ _
    | exact Verdict.yields_refuse _ _ _

theorem judgeClose_terms (x : Ctx) (q : Req) (u : State) : (judgeClose x q u).Yields (TermsKept u) := by
  unfold judgeClose
  repeat' split
  all_goals first
    | exact terms_beginClose u _
    | exact Verdict.yields_refuse _ _ _

theorem judgeAbandon_terms (x : Ctx) (q : Req) (u : State) : (judgeAbandon x q u).Yields (TermsKept u) := by
  unfold judgeAbandon
  repeat' split
  all_goals first
    | exact (terms_voidExtent u _ _ _).trans (terms_judgePage _)
    | exact Verdict.yields_refuse _ _ _

/-- A reader is counted, and a FETCH placed (R63, R65, R68). -/
theorem terms_addReader_place (u : State) (n : Nat) (op : MediaOp) : TermsKept u ((u.addReader n).place op) :=
  (TermsKept.frame (t := u.addReader n) (by simp)).trans (terms_place _ op)

theorem judgeRead_terms (x : Ctx) (q : Req) (u : State) : (judgeRead x q u).Yields (TermsKept u) := by
  unfold judgeRead
  repeat' split
  all_goals first
    | exact terms_addReader_place u _ _
    | exact Verdict.yields_refuse _ _ _

theorem judgeVerify_terms (x : Ctx) (q : Req) (u : State) : (judgeVerify x q u).Yields (TermsKept u) := by
  unfold judgeVerify
  repeat' split
  all_goals first
    | exact terms_addReader_place u _ _
    | exact Verdict.yields_refuse _ _ _

/-! ### Disposition, holds and time -/

theorem judgeDispose_terms (x : Ctx) (q : Req) (u : State) : (judgeDispose x q u).Yields (TermsKept u) := by
  unfold judgeDispose
  dsimp only
  repeat' split
  all_goals first
    | exact terms_classifyAll _ _ _ u _
    | exact TermsKept.refl u
    | exact Verdict.yields_refuse _ _ _

theorem judgeHoldPlace_terms (x : Ctx) (q : Req) (u : State) : (judgeHoldPlace x q u).Yields (TermsKept u) := by
  have placed (o : Origin) (matter : Nat) (scope : Scope) : TermsKept u (u.placeHold o matter scope) :=
    (TermsKept.frame (by simp)).trans (terms_judgePage (State.noteLate _ o matter (u.lateExtent scope)))
  unfold judgeHoldPlace
  repeat' split
  all_goals first
    | exact placed _ _ _
    | exact Verdict.yields_refuse _ _ _

theorem judgeHoldLift_terms (x : Ctx) (q : Req) (u : State) : (judgeHoldLift x q u).Yields (TermsKept u) := by
  have lifted (o : Origin) (k : Nat) (y : Hold) : TermsKept u (u.liftHold o k y) :=
    (TermsKept.frame (by simp)).trans (terms_judgePage (State.record _ o _))
  unfold judgeHoldLift
  repeat' split
  all_goals first
    | exact lifted _ _ _
    | exact Verdict.yields_refuse _ _ _

theorem judgeAdopt_terms (x : Ctx) (q : Req) (u : State) : (judgeAdopt x q u).Yields (TermsKept u) := by
  have adopted (o : Origin) (m : FarMark) (d : Int) : TermsKept u (u.adopt o m d) :=
    (TermsKept.frame (by simp)).trans (terms_judgePage (State.record _ o _))
  unfold judgeAdopt
  dsimp only
  repeat' split
  all_goals first
    | exact adopted _ _ _
    | exact Verdict.yields_refuse _ _ _

theorem judgeTime_terms (x : Ctx) (q : Req) (u : State) : (judgeTime x q u).Yields (TermsKept u) := by
  unfold judgeTime
  repeat' split
  all_goals first
    | exact (TermsKept.frame (t := u.withLink _ _) (by simp)).trans (terms_changeClock _ _)
    | exact TermsKept.refl u
    | exact Verdict.yields_refuse _ _ _

/-! ### Policy -/

/-- An entry that does not loosen a defined one tightens it (R112). -/
theorem tightened_of_not_loosened {a b : ClassEntry} (h : a.loosenedBy b = false) (ha : a.defined = true) :
    a.TightenedTo b := by
  simp only [ClassEntry.loosenedBy, ha, Bool.true_and, Bool.or_eq_false_iff, Bool.not_eq_false', decide_eq_false_iff_not,
    Nat.not_lt, Bool.and_eq_false_iff] at h
  obtain ⟨⟨⟨defined, period⟩, permanent⟩, _⟩ := h
  exact ⟨defined, period, fun hp => by simpa [hp] using permanent⟩

theorem classEntry_writeClass (s : State) (cls : Nat) (e : ClassEntry) (c : Nat) :
    (s.writeClass cls e).classEntry c = s.classEntry c ∨ c = cls ∧ (s.writeClass cls e).classEntry c = e := by
  simp only [State.writeClass, State.classEntry, State.withClasses_classes]
  by_cases hc : c = cls
  · by_cases hl : cls < s.classes.entries.length
    · exact .inr ⟨hc, by simp [hc, hl]⟩
    · exact .inl (by simp [hc, hl])
  · exact .inl (by rw [List.getElem?_set_ne (Ne.symm hc)])

/-- While the policy is fixed, a class is written only with an entry that does not loosen it (R112). -/
theorem terms_writeClass (s : State) (cls : Nat) (e : ClassEntry)
    (h : s.classes.fixed = true → (s.classEntry cls).loosenedBy e = false) : TermsKept s (s.writeClass cls e) where
  records n a ha := ⟨a, ha, .refl a⟩
  latch hs := hs
  classes hs c hd := by
    rcases classEntry_writeClass s cls e c with same | ⟨rfl, written⟩
    · rw [same]; exact .refl hd
    · rw [written]; exact tightened_of_not_loosened (h hs) hd

theorem terms_setClass (s : State) (o : Origin) (cls : Nat) (e : ClassEntry)
    (h : s.classes.fixed = true → (s.classEntry cls).loosenedBy e = false) : TermsKept s (s.setClass o cls e) := by
  have written := terms_writeClass s cls e h
  unfold State.setClass
  split
  · exact written.trans ((TermsKept.frame (t := State.record _ o _) (by simp)).trans (terms_judgePage _))
  · exact written

theorem judgeClassSet_terms (x : Ctx) (q : Req) (u : State) : (judgeClassSet x q u).Yields (TermsKept u) := by
  unfold judgeClassSet
  dsimp only
  split
  · split
    · exact Verdict.yields_refuse _ _ _
    · split
      · exact Verdict.yields_refuse _ _ _
      · next tight =>
        split
        · exact Verdict.yields_refuse _ _ _
        · split
          · exact Verdict.yields_refuse _ _ _
          · exact terms_setClass u _ _ _ fun fixed => by simpa [fixed] using tight
  · exact Verdict.yields_refuse _ _ _

/-- Fixing the policy changes no entry (R113). -/
theorem terms_fixPolicy (s : State) (o : Origin) : TermsKept s (s.fixPolicy o) := by
  have latched : TermsKept s (s.withClasses { s.classes with fixed := true }) :=
    ⟨fun n a ha => ⟨a, ha, .refl a⟩, fun _ => rfl, fun _ c hd => .refl hd⟩
  exact latched.trans ((TermsKept.frame (t := State.record _ o _) (by simp)).trans (terms_judgePage _))

theorem judgePolicyFix_terms (x : Ctx) (q : Req) (u : State) : (judgePolicyFix x q u).Yields (TermsKept u) := by
  unfold judgePolicyFix
  repeat' split
  all_goals first
    | exact terms_fixPolicy u _
    | exact Verdict.yields_refuse _ _ _

/-- A floor given by EXTEND is permanent, or the extent's own is not and lies no later (R118). -/
theorem floor_le_newFloor {s : State} {r : Extent} {days : Option Nat} {f : Nat}
    (hf : newFloor (s.expiry r) days = some f) :
    f = Config.permanentDay ∨ r.floor ≠ some Config.permanentDay ∧ r.floor.getD 0 ≤ f := by
  cases days with
  | none =>
    simp only [newFloor, Option.ite_none_left_eq_some, Option.some.injEq] at hf
    exact .inl hf.2.symm
  | some d =>
    simp only [newFloor, Option.ite_none_left_eq_some, Option.some.injEq, not_or] at hf
    obtain ⟨⟨hperm, hcap⟩, rfl⟩ := hf
    refine .inr ?_
    unfold State.expiry expiryDay at hperm hcap ⊢
    split at hperm
    · exact absurd rfl hperm
    · next plain =>
      rw [if_neg plain] at hcap ⊢
      simp only [Bool.or_eq_true, beq_iff_eq, not_or] at plain
      exact ⟨plain.2, by omega⟩

theorem expiryDay_le_permanent (e : ClassEntry) (r : Extent) : expiryDay e r ≤ Config.permanentDay := by
  unfold expiryDay
  split
  · exact le_rfl
  · simp only [Config.capDay, Config.permanentDay]
    omega

/-- A later floor expires the extent under no class entry earlier (R115). -/
theorem expiryDay_le_of_floor {r : Extent} {f : Nat}
    (later : f = Config.permanentDay ∨ r.floor ≠ some Config.permanentDay ∧ r.floor.getD 0 ≤ f) (e : ClassEntry) :
    expiryDay e r ≤ expiryDay e { r with floor := some f } := by
  by_cases last : e.permanent = true ∨ f = Config.permanentDay
  · have permanent : expiryDay e { r with floor := some f } = Config.permanentDay := if_pos (by simpa using last)
    exact permanent ▸ expiryDay_le_permanent e r
  · obtain ⟨he, hf⟩ := not_or.1 last
    obtain ⟨hr, hle⟩ := later.resolve_left hf
    rw [expiryDay, expiryDay, if_neg (by simp [he, hr]), if_neg (by simp [he, hf])]
    exact min_le_min_left _ (max_le_max le_rfl hle)

/-- EXTEND only raises: no class entry expires the extent earlier (R115, R118). -/
theorem extend_binds {s : State} {r : Extent} {days : Option Nat} {f : Nat} (hf : newFloor (s.expiry r) days = some f) :
    r.Binds (r.extend f) := by
  unfold Extent.extend
  split
  · next hr =>
    exact ⟨fun _ => .inr ⟨hr, rfl, expiryDay_le_of_floor (floor_le_newFloor hf)⟩,
      fun ht => by rw [retained_not_tombstone hr] at ht; cases ht⟩
  · exact .refl r

theorem terms_extendOne (days : Option Nat) (p : State × ExtendTally) (n : Nat) :
    TermsKept p.1 (State.extendOne days p n).1 := by
  unfold State.extendOne
  dsimp only
  split
  · exact .refl p.1
  · next r found =>
    split
    · exact .refl p.1
    · split
      · exact .refl p.1
      · next f hf =>
        refine .modFound (touch_extend f).number fun a ha => ?_
        obtain rfl : r = a := Option.some.inj (found.symm.trans ha)
        exact extend_binds hf

theorem terms_extendAll (s : State) (first last : Nat) (days : Option Nat) :
    TermsKept s (s.extendAll first last days).1 := by
  have fold (l : List Nat) (p : State × ExtendTally) : TermsKept p.1 (l.foldl (State.extendOne days) p).1 := by
    induction l generalizing p with
    | nil => exact .refl p.1
    | cons n l ih => exact (terms_extendOne days p n).trans (ih _)
  exact fold _ (s, _)

theorem judgeExtend_terms (x : Ctx) (q : Req) (u : State) : (judgeExtend x q u).Yields (TermsKept u) := by
  have extended (first last : Nat) (days : Option Nat) (o : Origin) (v : Subject) :
      TermsKept u ((u.extendAll first last days).1.record o v).judgePage :=
    (terms_extendAll u first last days).trans
      ((TermsKept.frame (t := State.record _ o v) (by simp)).trans (terms_judgePage _))
  unfold judgeExtend
  repeat' split
  all_goals first
    | exact extended _ _ _ _ _
    | exact Verdict.yields_refuse _ _ _

end Sys2Proof.Machine
end

section
/-! SUPPORT. The rows that are no capsules, OPEN, and the statement that under a fixed policy no retained extent comes to expire
earlier (R112, R115, R118). -/

namespace Sys2Proof.Machine

variable {s t u : State}

/-! ### Outcomes -/

/-- The state an outcome leads to, if any, is as `R` says. -/
def Reaching (R : State → Prop) (o : Host.Outcome State Fault Refusal) : Prop := ∀ t, o = .next t → R t

theorem Reaching.next {R : State → Prop} (h : R t) : Reaching R (.next t) := by
  intro u hu
  cases hu
  exact h

theorem Reaching.stay (s : State) : Reaching (TermsKept s) (.next s) := .next (.refl s)

/-- A row that acts under a condition. -/
theorem Reaching.ite {c : Prop} [Decidable c] (h : TermsKept s t) :
    Reaching (TermsKept s) (if c then .next t else .next s) := by
  split
  · exact .next h
  · exact .stay s

/-- A completion step: the requester's reaction, then the grant (R79, R85). -/
theorem TermsKept.complete (h : TermsKept s t) : TermsKept s t.complete := h.trans (terms_complete t)

/-! ### Power, links and the console -/

theorem powerOn_terms (env : StartEnv) (h : s.marker = true) : Reaching (TermsKept s) (execPowerOn env s) := by
  unfold execPowerOn
  split
  · exact .next (terms_startUp h _ env)
  · exact .stay s

theorem resetNRelease_terms (env : StartEnv) (h : s.marker = true) : Reaching (TermsKept s) (execResetNRelease env s) := by
  unfold execResetNRelease
  split
  · exact .next (terms_startUp h _ env)
  · exact .stay s

theorem recoveryVoid_terms (s : State) : Reaching (TermsKept s) (execRecoveryVoid s) := by
  unfold execRecoveryVoid
  split
  · exact .next (terms_grantPlace s _)
  · exact .stay s

theorem start_terms (s : State) : Reaching (TermsKept s) (execStart s) := by
  unfold execStart
  split
  · exact .next (terms_grantPlace s _)
  · exact .stay s

theorem capsuleWindowWrite_terms (n : Node) (offset : Nat) (bytes : List Byte) (s : State) :
    Reaching (TermsKept s) (execCapsuleWindowWrite n offset bytes s) := by
  unfold execCapsuleWindowWrite
  split
  · exact fun _ h => by cases h
  · exact .ite (.frame (by simp))

theorem noCapsule_terms (r : ReceiptRead) (s : State) : Reaching (TermsKept s) (execNoCapsule r s) := by
  unfold execNoCapsule
  split <;> exact .ite (.frame (by simp))

theorem split_terms (h : HandOver) (s : State) : Reaching (TermsKept s) (execSplit h s) := by
  have taken : TermsKept s (s.handOver h .split judgeSplit) := terms_handOver s h _ judgeSplit_terms
  unfold execSplit
  refine .next ?_
  split
  · exact taken
  · exact taken.trans ((TermsKept.frame (t := State.askSplit _) (by simp)).trans (terms_judgeSince _ _))

/-! ### Node memory -/

theorem fetchComplete_terms (n : Node) (slot : Nat) (l : List (List Byte)) (s : State) :
    Reaching (TermsKept s) (execFetchComplete n slot l s) := by
  unfold execFetchComplete
  split
  · exact .ite (terms_fetched s _ _ _ _)
  · exact .stay s

theorem fetchFailed_terms (n : Node) (slot : Nat) (s : State) : Reaching (TermsKept s) (execFetchFailed n slot s) := by
  unfold execFetchFailed
  split
  · exact .ite (terms_fetchFault s _ _)
  · exact .stay s

theorem dmaReadTimeout_terms (n : Node) (slot sent : Nat) (s : State) :
    Reaching (TermsKept s) (execDmaReadTimeout n slot sent s) := by
  unfold execDmaReadTimeout
  split
  · exact .ite (terms_fetchFault s _ _)
  · exact .ite (.frame (by simp))
  · exact .stay s

theorem readDmaComplete_terms (n : Node) (slot : Nat) (s : State) :
    Reaching (TermsKept s) (execReadDmaComplete n slot s) := by
  unfold execReadDmaComplete
  split
  · exact .ite (.frame (by simp))
  · exact .stay s

theorem readDmaFailed_terms (n : Node) (slot placed : Nat) (s : State) :
    Reaching (TermsKept s) (execReadDmaFailed n slot placed s) := by
  unfold execReadDmaFailed
  split
  · exact .ite (.frame (by simp))
  · exact .stay s

/-! ### The answers of the array -/

theorem appendProgramOk_terms (s : State) : Reaching (TermsKept s) (execAppendProgramOk s) := by
  unfold execAppendProgramOk
  split
  · exact .next (terms_appendDone s _ _).complete
  · exact .stay s

theorem appendProgramMediaError_terms (s : State) : Reaching (TermsKept s) (execAppendProgramMediaError s) := by
  unfold execAppendProgramMediaError
  split
  · exact .next (terms_request s _).complete
  · exact .stay s

theorem trailerOk_terms (s : State) : Reaching (TermsKept s) (execTrailerOk s) := by
  unfold execTrailerOk
  split
  · exact .next (terms_trailerDone s _).complete
  · exact .stay s

theorem trailerMediaError_terms (s : State) : Reaching (TermsKept s) (execTrailerMediaError s) := by
  unfold execTrailerMediaError
  split
  · exact .next (terms_request s _).complete
  · exact .stay s

theorem readFetchOk_terms (data : List Byte) (s : State) : Reaching (TermsKept s) (execReadFetchOk data s) := by
  have fetched (ref : SlotRef) : TermsKept s (s.readFetched ref data) := .frame (by simp)
  unfold execReadFetchOk
  split
  · exact .ite (fetched _).complete
  · exact .stay s

theorem readFetchMediaError_terms (s : State) : Reaching (TermsKept s) (execReadFetchMediaError s) := by
  unfold execReadFetchMediaError
  split
  · exact .next (TermsKept.frame (t := s.readFault _) (by simp)).complete
  · exact .stay s

theorem verifyFetchOk_terms (data : List Byte) (s : State) : Reaching (TermsKept s) (execVerifyFetchOk data s) := by
  unfold execVerifyFetchOk
  split
  · exact .ite (terms_verifyFetched s _ _ _).complete
  · exact .stay s

theorem verifyFetchMediaError_terms (s : State) : Reaching (TermsKept s) (execVerifyFetchMediaError s) := by
  unfold execVerifyFetchMediaError
  split
  · exact .next (terms_verifyFault s _ _).complete
  · exact .stay s

theorem journalReadFetchDone_terms (page : Option (List Byte)) (s : State) :
    Reaching (TermsKept s) (execJournalReadFetchDone page s) := by
  have fetched (ref : SlotRef) : TermsKept s (s.pageFetched ref page) := .frame (by simp)
  unfold execJournalReadFetchDone
  split
  · exact .ite (fetched _).complete
  · exact .stay s

theorem scrubCompleteOk_terms (s : State) : Reaching (TermsKept s) (execScrubCompleteOk s) := by
  unfold execScrubCompleteOk
  split
  · exact .next ((terms_setStage s _).trans (terms_request _ _)).complete
  · exact .stay s

theorem scrubMediaError_terms (s : State) : Reaching (TermsKept s) (execScrubMediaError s) := by
  unfold execScrubMediaError
  split
  · exact .next (terms_scrubFault s _).complete
  · exact .stay s

theorem journalWriteOk_terms (s : State) : Reaching (TermsKept s) (execJournalWriteOk s) := by
  unfold execJournalWriteOk
  split
  · exact .next (terms_pageDone s).complete
  · exact .stay s

theorem journalWriteMediaError_terms (s : State) : Reaching (TermsKept s) (execJournalWriteMediaError s) := by
  unfold execJournalWriteMediaError
  split
  · exact .next (terms_pageFault s).complete
  · exact .stay s

theorem mediaAnswerLimit_terms (s : State) : Reaching (TermsKept s) (execMediaAnswerLimit s) := by
  unfold execMediaAnswerLimit
  split
  · exact .ite (terms_mediaError s _).complete
  · exact .stay s

theorem readersDrained_terms (s : State) : Reaching (TermsKept s) (execReadersDrained s) := by
  unfold execReadersDrained
  split
  · exact .ite (terms_placeScrub s _)
  · exact .stay s

/-! ### Every command but OPEN -/

/-- Whatever the command, but for OPEN, an initialized part keeps the terms of its extents. -/
theorem exec_terms (i : Instr) (h : s.marker = true) (ho : ∀ x, i ≠ .openExtent x) :
    Reaching (TermsKept s) (exec i s) := by
  cases i with
  | powerOn env => exact powerOn_terms env h
  | resetNAssert => exact .ite (.frame ⟨rfl, rfl⟩)
  | resetNRelease env => exact resetNRelease_terms env h
  | powerLoss => exact .next (.frame ⟨rfl, rfl⟩)
  | recoveryVoid => exact recoveryVoid_terms s
  | start => exact start_terms s
  | linkReset n => exact .ite (terms_resetLink s n)
  | linkUp n => exact .ite (.frame (by simp))
  | msiEnableWrite n e => exact .ite (.frame (by simp))
  | capsuleWindowWrite n o l => exact capsuleWindowWrite_terms n o l s
  | noCapsule r => exact noCapsule_terms r s
  | badKind x => exact .next (.frame (by simp))
  | cportPartialCapsule a l => exact .stay s
  | cportReceiptRead a n => exact .ite (.frame (by simp))
  | roleChange => exact .ite (.frame (by simp))
  | openExtent x => exact absurd rfl (ho x)
  | append x => exact .next (terms_handOver s x _ judgeAppend_terms)
  | close x => exact .next (terms_handOver s x _ judgeClose_terms)
  | abandon x => exact .next (terms_handOver s x _ judgeAbandon_terms)
  | read x => exact .next (terms_handOver s x _ judgeRead_terms)
  | verify x => exact .next (terms_handOver s x _ judgeVerify_terms)
  | query x => exact .next (terms_handOver s x _ judgeQuery_terms)
  | find x => exact .next (terms_handOver s x _ judgeFind_terms)
  | status x => exact .next (terms_handOver s x _ judgeStatus_terms)
  | window x => exact .next (terms_handOver s x _ judgeWindow_terms)
  | time x => exact .next (terms_handOver s x _ judgeTime_terms)
  | events x => exact .next (terms_handOver s x _ judgeEvents_terms)
  | dispose x => exact .next (terms_handOver s x _ judgeDispose_terms)
  | holdPlace x => exact .next (terms_handOver s x _ judgeHoldPlace_terms)
  | holdLift x => exact .next (terms_handOver s x _ judgeHoldLift_terms)
  | holdList x => exact .next (terms_handOver s x _ judgeHoldList_terms)
  | extend x => exact .next (terms_handOver s x _ judgeExtend_terms)
  | classSet x => exact .next (terms_handOver s x _ judgeClassSet_terms)
  | classGet x => exact .next (terms_handOver s x _ judgeClassGet_terms)
  | policyFix x => exact .next (terms_handOver s x _ judgePolicyFix_terms)
  | adopt x => exact .next (terms_handOver s x _ judgeAdopt_terms)
  | route x => exact .next (terms_handOver s x _ judgeRoute_terms)
  | split x => exact split_terms x s
  | journalRead x => exact .next (terms_handOver s x _ judgeJournalRead_terms)
  | tick => exact .ite ((TermsKept.frame (t := s.tickClock) (by simp)).trans (terms_judgeTick _))
  | openTimeoutDue k => exact .next (terms_judgeTimer s k)
  | openTimeout k => exact .next (terms_grantPlace s _)
  | splitTimeout => exact .ite (.frame (by simp))
  | holdover => exact .ite (terms_judgeHoldover s)
  | partialPageTime => exact .ite (terms_judgePage s)
  | mediaAnswerLimit => exact mediaAnswerLimit_terms s
  | dmaReadTimeout n k m => exact dmaReadTimeout_terms n k m s
  | fetchComplete n k l => exact fetchComplete_terms n k l s
  | fetchFailed n k => exact fetchFailed_terms n k s
  | appendProgramOk => exact appendProgramOk_terms s
  | appendProgramMediaError => exact appendProgramMediaError_terms s
  | trailerOk => exact trailerOk_terms s
  | trailerMediaError => exact trailerMediaError_terms s
  | mediaFaultVoid k => exact .next (terms_grantPlace s _)
  | readFetchOk l => exact readFetchOk_terms l s
  | readFetchMediaError => exact readFetchMediaError_terms s
  | readDmaComplete n k => exact readDmaComplete_terms n k s
  | readDmaFailed n k m => exact readDmaFailed_terms n k m s
  | verifyFetchOk l => exact verifyFetchOk_terms l s
  | verifyFetchMediaError => exact verifyFetchMediaError_terms s
  | integrityRecord ref => exact .next (terms_grantPlace s _)
  | journalReadFetchDone p => exact journalReadFetchDone_terms p s
  | headTake => exact .ite (terms_takeHead s)
  | readersDrained => exact readersDrained_terms s
  | scrubCompleteOk => exact scrubCompleteOk_terms s
  | disposed => exact .next (terms_grantPlace s _)
  | scrubMediaError => exact scrubMediaError_terms s
  | disposalFailed => exact .next (terms_grantPlace s _)
  | splitApply => exact .next (terms_grantPlace s _)
  | journalWriteOk => exact journalWriteOk_terms s
  | journalWriteMediaError => exact journalWriteMediaError_terms s
  | coalescedClockState => exact .ite ((TermsKept.frame (t := s.grantMark) (by simp)).trans (terms_judgePage _))
  | cmodeSample low => exact .ite (.frame (by simp))

/-! ### OPEN -/

/-- Each record retained in `t` stands so in `s`, and the classes are as they were. OPEN is such a step, and keeps the terms
only of a table whose numbers are distinct: the record it creates could take the number of the tombstone it evicts. -/
structure NoneNewlyRetained (s t : State) : Prop where
  records : ∀ n b, t.extent n = some b → b.retained = true → s.extent n = some b
  classes : t.classes = s.classes

theorem NoneNewlyRetained.trans (x : NoneNewlyRetained s t) (y : NoneNewlyRetained t u) : NoneNewlyRetained s u :=
  ⟨fun n b hb rb => x.records n b (y.records n b hb rb) rb, y.classes.trans x.classes⟩

theorem NoneNewlyRetained.frame (h : s.SameTerms t) : NoneNewlyRetained s t :=
  ⟨fun n b hb _ => by rw [← State.extent_congr h.1]; exact hb, h.2⟩

theorem NoneNewlyRetained.expiry_le (h : NoneNewlyRetained s t) {n : Nat} {a b : Extent} (ha : s.extent n = some a)
    (hb : t.extent n = some b) (rb : b.retained = true) : s.expiry a ≤ t.expiry b := by
  obtain rfl : b = a := Option.some.inj ((h.records n b hb rb).symm.trans ha)
  rw [State.expiry, State.expiry, classEntry_congr (s := s) (t := t) (by rw [h.classes])]

/-- The tombstone that leaves hides no other record (R17). -/
theorem noneNewlyRetained_evict (s : State) (x : Extent) : NoneNewlyRetained s (s.evict x) := by
  refine ⟨fun n b hb _ => ?_, by simp⟩
  have hb' : (s.et.records.filter (fun r => r.number != x.number)).find? (fun r => r.number == n) = some b := hb
  have hn : b.number = n := State.extent_number hb
  have hx : n ≠ x.number := by simpa [hn] using (List.mem_filter.1 (List.mem_of_find?_eq_some hb')).2
  rw [List.find?_filter] at hb'
  rw [← hb', State.extent]
  congr 1
  funext r
  by_cases hr : r.number = n <;> simp [hr, hx]

/-- The record an OPEN creates is OPEN (R40). -/
theorem noneNewlyRetained_create (s : State) (opener : Node) (store cls group key start : Nat) :
    NoneNewlyRetained s (s.create opener store cls group key start) := by
  refine ⟨fun n b hb rb => ?_, by simp⟩
  have hb' : (s.et.records ++ [Extent.created s.et.next key group store cls opener start s.clock.tick]).find?
      (fun r => r.number == n) = some b := hb
  rw [List.find?_append, Option.or_eq_some_iff] at hb'
  rcases hb' with h | ⟨_, h⟩
  · exact h
  · obtain rfl := List.mem_singleton.1 (List.mem_of_find?_eq_some h)
    cases rb

theorem judgeOpenKey_noneNewlyRetained (u : State) (opener : Node) (store cls group key start : Nat) :
    (judgeOpenKey u opener store cls group key start).Yields (NoneNewlyRetained u) := by
  unfold judgeOpenKey
  repeat' split
  all_goals first
    | exact noneNewlyRetained_create u _ _ _ _ _ _
    | exact (noneNewlyRetained_evict u _).trans (noneNewlyRetained_create _ _ _ _ _ _ _)
    | exact Verdict.yields_refuse _ _ _

theorem judgeOpen_noneNewlyRetained (x : Ctx) (q : Req) (u : State) : (judgeOpen x q u).Yields (NoneNewlyRetained u) := by
  unfold judgeOpen
  repeat' split
  all_goals first
    | exact judgeOpenKey_noneNewlyRetained u _ _ _ _ _ _
    | exact Verdict.yields_refuse _ _ _

theorem open_noneNewlyRetained (s : State) (h : HandOver) : NoneNewlyRetained s (s.handOver h .openExtent judgeOpen) :=
  handOver_yields (fun _ _ same kept => kept.trans (.frame same)) (.frame ⟨rfl, rfl⟩) h _ fun x q u same =>
    (judgeOpen_noneNewlyRetained x q u).mono fun _ kept => (NoneNewlyRetained.frame same).trans kept

/-! ### The statement -/

/-- Settles O58: an OPEN retains nothing new and leaves the rest (`open_noneNewlyRetained`); every other command keeps the
terms of the extents (`exec_terms`), by which none expires earlier (`TermsKept.expiry_le`). -/
theorem expiryNeverDecreases : Obligations.ExpiryNeverDecreases := by
  intro s t n a b marked fixed h ha ra hb rb defined
  unfold step at h
  split at h
  · cases h
    exact (TermsKept.refl s).expiry_le fixed ha ra hb rb defined
  · next c rest _ =>
    by_cases opens : ∃ x, c = .openExtent x
    · obtain ⟨x, rfl⟩ := opens
      cases h
      exact (open_noneNewlyRetained (s.withPending rest) x).expiry_le (s := s.withPending rest) ha hb rb
    · have kept : TermsKept (s.withPending rest) t :=
        exec_terms (s := s.withPending rest) c marked (fun x e => opens ⟨x, e⟩) t h
      exact kept.expiry_le (s := s.withPending rest) fixed ha ra hb rb defined

end Sys2Proof.Machine
end

section
/-! SUPPORT. The class table as its owner sets, reports and fixes it (R110 to R114). -/

namespace Sys2Proof.Machine

/-! ### What the checks read -/

/-- General journal space is exhausted with 8 pages or fewer left (R160). -/
theorem exhausted_eq_true (j : Journal) : j.exhausted = true ↔ j.pages - 8 ≤ j.used := decide_eq_true_iff

/-- 56 records close the buffer to capsule commands (R155). -/
theorem backlog_eq_true (j : Journal) : j.backlog = true ↔ 56 ≤ j.buffer.length := decide_eq_true_iff

/-- The four ways to loosen a defined class (R112). -/
theorem loosenedBy_iff (a b : ClassEntry) : a.loosenedBy b = true ↔ a.defined = true ∧ (b.defined = false ∨
    b.period < a.period ∨ (a.permanent = true ∧ b.permanent = false) ∨
      (a.complianceOnly = true ∧ b.complianceOnly = false)) := by
  simp [ClassEntry.loosenedBy, or_assoc]

theorem sentEntry_eq (defined forever : Bool) (mode period : Nat) :
    sentEntry defined forever mode period = ⟨defined, min 36500 period, forever, decide (mode = 1)⟩ := by
  simp only [sentEntry, Config.maxPeriod, ClassEntry.mk.injEq, true_and]
  exact beq_eq_decide mode 1

@[simp] theorem definedCount_takeMark (s : State) (m : Master) : (s.takeMark m).definedCount = s.definedCount := by
  simp [State.definedCount]

theorem definedCount_eq (s : State) : s.definedCount = (s.classes.entries.filter (·.defined)).length :=
  List.countP_eq_length_filter

/-! ### The three commands -/

variable {s : State} {h : HandOver} {c : Capsule}

/-- What a CLASS_SET that is taken makes of the part: a record and its page write only while the latch is set (R111, R112). -/
theorem setClass_takeMark (s : State) (m : Master) (o : Origin) (cls : Nat) (e : ClassEntry) :
    (s.takeMark m).setClass o cls e =
      let u := (s.takeMark m).withClasses { s.classes with entries := s.classes.entries.set cls e }
      if s.classes.fixed = true then (u.record o (.classSet cls (s.classEntry cls) e)).judgePage else u := by
  simp [State.setClass, State.writeClass]

theorem exec_classSet {cls mode period : Nat} {defined forever : Bool}
    (R : Reaches s h c (.classSet cls defined forever mode period) []) :
    let old := s.classEntry cls
    let new : ClassEntry := ⟨defined, min 36500 period, forever, decide (mode = 1)⟩
    let no (code : Code) (x : List Byte) : Host.Outcome State Fault Refusal :=
      .next (s.answered c .refused code none x)
    exec (.classSet h) s =
      if 15 < cls ∨ 1 < mode then no .badClass []
      else if s.classes.fixed = true ∧ old.loosenedBy new = true then
        no .classShorten (classFields old s.classes.fixed)
      else if s.journal.pages - 8 ≤ s.journal.used then no .journalFull (classFields old s.classes.fixed)
      else if s.classes.fixed = true ∧ 56 ≤ s.journal.buffer.length then
        no .journalBacklog (classFields old s.classes.fixed)
      else .next (((s.takeMark c.master).setClass (.master c.master) cls new).finish c s.cport.role .ok
        (classFields new s.classes.fixed)) := by
  intro old new no
  have hand : exec (.classSet h) s = .next ((s.takeMark c.master).conclude c
      (judgeClassSet (Ctx.of s c []) (.classSet cls defined forever mode period) (s.takeMark c.master))) :=
    congrArg _ (State.handOver_of_reaches R judgeClassSet)
  rw [hand]
  simp only [judgeClassSet, State.takeMark_frame, State.classEntry_takeMark, sentEntry_eq, Bool.or_eq_true,
    Bool.and_eq_true, decide_eq_true_eq, exhausted_eq_true, backlog_eq_true, apply_ite (State.conclude _ c),
    apply_ite Host.Outcome.next, State.conclude_refuse, State.conclude_done]
  rfl

theorem exec_classGet {cls : Nat} (R : Reaches s h c (.classGet cls) []) :
    exec (.classGet h) s =
      if 15 < cls then .next (s.answered c .refused .badClass none [])
      else .next ((s.takeMark c.master).finish c s.cport.role .ok
        (classFields (s.classEntry cls) s.classes.fixed)) := by
  have hand : exec (.classGet h) s = .next ((s.takeMark c.master).conclude c
      (judgeClassGet (Ctx.of s c []) (.classGet cls) (s.takeMark c.master))) :=
    congrArg _ (State.handOver_of_reaches R judgeClassGet)
  rw [hand]
  simp only [judgeClassGet, State.takeMark_frame, State.classEntry_takeMark, apply_ite (State.conclude _ c),
    apply_ite Host.Outcome.next, State.conclude_refuse, State.conclude_done]

theorem exec_policyFix (R : Reaches s h c .policyFix []) :
    let no (code : Code) : Host.Outcome State Fault Refusal := .next (s.answered c .refused code none [])
    exec (.policyFix h) s =
      if s.classes.fixed = true then no .alreadyFixed
      else if s.definedCount = 0 then no .noClasses
      else if s.journal.pages - 8 ≤ s.journal.used then no .journalFull
      else if 56 ≤ s.journal.buffer.length then no .journalBacklog
      else .next (((s.takeMark c.master).fixPolicy (.master c.master)).finish c s.cport.role .ok
        (le 1 s.definedCount)) := by
  intro no
  have hand : exec (.policyFix h) s = .next ((s.takeMark c.master).conclude c
      (judgePolicyFix (Ctx.of s c []) .policyFix (s.takeMark c.master))) :=
    congrArg _ (State.handOver_of_reaches R judgePolicyFix)
  rw [hand]
  simp only [judgePolicyFix, State.takeMark_frame, definedCount_takeMark, exhausted_eq_true, backlog_eq_true,
    apply_ite (State.conclude _ c), apply_ite Host.Outcome.next, State.conclude_refuse, State.conclude_done]
  rfl

/-- Settles O47: each command's checks in their order (`exec_classSet`, `exec_classGet`, `exec_policyFix`). -/
theorem classesAreSetAndFixed : Obligations.ClassesAreSetAndFixed := by
  refine ⟨fun s h c cls defined forever mode period R => ?_, fun s h c cls R => ?_, fun s h c R => ?_⟩
  · intro old new fields no loosens u
    rw [exec_classSet R]
    have tight := loosenedBy_iff old new
    refine if_congr .rfl rfl (if_congr (and_congr_right' tight) rfl (if_congr .rfl rfl (if_congr .rfl rfl ?_)))
    rw [setClass_takeMark]
    dsimp only
    split <;> rfl
  · exact exec_classGet R
  · intro no n
    rw [exec_policyFix R, definedCount_eq]
    simp only [State.fixPolicy, State.takeMark_frame]
    rfl

end Sys2Proof.Machine
end

section
/-! SUPPORT. EXTEND: what it makes of one number, the fold over a range, and the counts of its outcomes (R117 to R119). -/

namespace Sys2Proof.Machine

/-! ### The outcome of one number -/

/-- An effective expiry day that an EXTEND leaves as it is (R118). -/
def State.atEnd (s : State) (days : Option Nat) (r : Extent) : Bool := (newFloor (s.expiry r) days).isNone

/-- The record an EXTEND makes of one it finds (R118). -/
def State.raised (s : State) (days : Option Nat) (r : Extent) : Extent :=
  match newFloor (s.expiry r) days with
  | some f => r.extend f
  | none => r

/-- How many numbers of a list come to each outcome of an EXTEND, by the record found of each (R118, R119). -/
def State.extendCounts (s : State) (days : Option Nat) (l : List Nat) : ExtendTally where
  extended := l.countP (fun n => (s.extent n).any (fun r => r.retained && !s.atEnd days r))
  unchanged := l.countP (fun n => (s.extent n).any (fun r => r.retained && s.atEnd days r))
  notRetained := l.countP (fun n => (s.extent n).any (fun r => !r.retained))
  notPresent := l.countP (fun n => (s.extent n).isNone)
  scrubbing := l.countP (fun n => (s.extent n).any (fun r => r.isScrubbing && !s.atEnd days r))

/-- Two tallies together. -/
def ExtendTally.plus (a b : ExtendTally) : ExtendTally where
  extended := a.extended + b.extended
  unchanged := a.unchanged + b.unchanged
  notRetained := a.notRetained + b.notRetained
  notPresent := a.notPresent + b.notPresent
  scrubbing := a.scrubbing + b.scrubbing

/-- `t` is `s` with the floors of the numbers in `l` raised, and nothing else changed (R118). -/
structure Raises (s : State) (days : Option Nat) (l : List Nat) (t : State) : Prop where
  frame : t = { s with et := t.et }
  keys : t.et.keys = s.et.keys
  next : t.et.next = s.et.next
  length : t.et.records.length = s.et.records.length
  extents : ∀ n, t.extent n = (s.extent n).map (fun r => if n ∈ l then s.raised days r else r)

variable {s t u : State} {days : Option Nat} {l : List Nat} {n : Nat}

theorem ExtendTally.plus_assoc (a b c : ExtendTally) : (a.plus b).plus c = a.plus (b.plus c) := by
  simp [ExtendTally.plus, Nat.add_assoc]

theorem extendCounts_cons (s : State) (days : Option Nat) (n : Nat) (l : List Nat) :
    s.extendCounts days (n :: l) = (s.extendCounts days [n]).plus (s.extendCounts days l) := by
  simp [State.extendCounts, ExtendTally.plus, List.countP_cons, Nat.add_comm]

theorem Raises.classes (h : Raises s days l t) : t.classes = s.classes := by rw [h.frame]

theorem Raises.expiry (h : Raises s days l t) : t.expiry = s.expiry := by
  funext r
  rw [State.expiry, State.expiry, classEntry_congr (s := s) (t := t) (by rw [h.classes])]

theorem Raises.atEnd (h : Raises s days l t) : t.atEnd = s.atEnd := by
  funext d r
  rw [State.atEnd, State.atEnd, h.expiry]

theorem Raises.raised (h : Raises s days l t) : t.raised = s.raised := by
  funext d r
  rw [State.raised, State.raised, h.expiry]

theorem Raises.extent_other (h : Raises s days l t) (hn : n ∉ l) : t.extent n = s.extent n := by
  simp [h.extents n, hn]

/-- The counts of numbers that were not raised are as they were. -/
theorem Raises.counts {k : List Nat} (h : Raises s days l t) (hk : ∀ n ∈ k, n ∉ l) :
    t.extendCounts days k = s.extendCounts days k := by
  have same (p : Option Extent → Bool) : k.countP (fun n => p (t.extent n)) = k.countP (fun n => p (s.extent n)) :=
    List.countP_congr fun n hn => by rw [h.extent_other (hk n hn)]
  have found (q : Extent → Bool) := same (Option.any q)
  simp only [State.extendCounts, h.atEnd, found, same Option.isNone]

theorem Raises.nil (s : State) (days : Option Nat) : Raises s days [] s :=
  ⟨rfl, rfl, rfl, rfl, fun n => by simp⟩

theorem Raises.cons (a : Raises s days [n] t) (b : Raises t days l u) (hn : n ∉ l) : Raises s days (n :: l) u where
  frame := by rw [b.frame, a.frame]
  keys := b.keys.trans a.keys
  next := b.next.trans a.next
  length := b.length.trans a.length
  extents m := by
    rw [b.extents m, a.extents m, Option.map_map]
    congr 1
    funext r
    by_cases hm : m = n
    · subst hm
      simp [hn]
    · simp [hm, a.raised]

/-- A number whose record, if any, is not raised. -/
theorem Raises.of_stays (h : ∀ r, s.extent n = some r → s.raised days r = r) : Raises s days [n] s := by
  refine ⟨rfl, rfl, rfl, rfl, fun m => ?_⟩
  cases hr : s.extent m with
  | none => rfl
  | some r =>
    by_cases hm : m = n
    · subst hm; simp [h r hr]
    · simp [hm]

theorem scrubbing_retained {r : Extent} (h : r.isScrubbing = true) : r.retained = true :=
  disposing_retained (isScrubbing_state h)

/-- One number of the range: its record is raised and its outcome counted (R118). -/
theorem extendOne_spec (s : State) (days : Option Nat) (t : ExtendTally) (n : Nat) :
    Raises s days [n] (State.extendOne days (s, t) n).1 ∧
      (State.extendOne days (s, t) n).2 = t.plus (s.extendCounts days [n]) := by
  unfold State.extendOne
  dsimp only
  cases found : s.extent n with
  | none => exact ⟨.of_stays (by simp [found]), by simp [State.extendCounts, ExtendTally.plus, found]⟩
  | some r =>
    dsimp only
    cases hr : r.retained with
    | false =>
      have hs : r.isScrubbing = false := by
        cases hs : r.isScrubbing with
        | false => rfl
        | true => rw [scrubbing_retained hs] at hr; cases hr
      refine ⟨.of_stays ?_, by simp [State.extendCounts, ExtendTally.plus, found, hr, hs]⟩
      intro x hx
      obtain rfl : r = x := Option.some.inj (found.symm.trans hx)
      unfold State.raised Extent.extend
      split <;> simp [hr]
    | true =>
      cases hf : newFloor (s.expiry r) days with
      | none =>
        refine ⟨.of_stays ?_, by simp [State.extendCounts, ExtendTally.plus, State.atEnd, found, hr, hf]⟩
        intro x hx
        obtain rfl : r = x := Option.some.inj (found.symm.trans hx)
        simp [State.raised, hf]
      | some f =>
        refine ⟨⟨rfl, rfl, rfl, by simp [State.modExtent], fun m => ?_⟩, ?_⟩
        · simp only [Bool.not_true, Bool.false_eq_true, if_false]
          rw [State.extent_modExtent s n (touch_extend f).number]
          by_cases hm : m = n
          · subst hm; simp [found, State.raised, hf]
          · simp [hm]
        · cases hs : r.isScrubbing <;>
            simp [State.extendCounts, ExtendTally.plus, State.atEnd, found, hr, hf, hs]

/-- Every number of a list, each once. -/
theorem extend_foldl_spec (days : Option Nat) (l : List Nat) (hl : l.Nodup) (s : State) (t : ExtendTally) :
    Raises s days l (l.foldl (State.extendOne days) (s, t)).1 ∧
      (l.foldl (State.extendOne days) (s, t)).2 = t.plus (s.extendCounts days l) := by
  induction l generalizing s t with
  | nil => exact ⟨.nil s days, by simp [State.extendCounts, ExtendTally.plus]⟩
  | cons n l ih =>
    obtain ⟨hn, hl⟩ := List.nodup_cons.1 hl
    obtain ⟨first, counted⟩ := extendOne_spec s days t n
    obtain ⟨rest, total⟩ := ih hl (State.extendOne days (s, t) n).1 (State.extendOne days (s, t) n).2
    refine ⟨first.cons rest hn, ?_⟩
    calc (l.foldl (State.extendOne days) (State.extendOne days (s, t) n)).2
        = (t.plus (s.extendCounts days [n])).plus (State.extendCounts _ days l) := by rw [total, counted]
      _ = (t.plus (s.extendCounts days [n])).plus (s.extendCounts days l) := by
          rw [first.counts fun m hm => by rintro h; exact hn (List.mem_singleton.1 h ▸ hm)]
      _ = t.plus (s.extendCounts days (n :: l)) := by rw [ExtendTally.plus_assoc, ← extendCounts_cons]

theorem extendAll_spec (s : State) (first last : Nat) (days : Option Nat) :
    Raises s days (rangeNumbers first last) (s.extendAll first last days).1 ∧
      (s.extendAll first last days).2 = s.extendCounts days (rangeNumbers first last) := by
  obtain ⟨raises, total⟩ := extend_foldl_spec days _ (rangeNumbers_nodup first last) s ⟨0, 0, 0, 0, 0⟩
  exact ⟨raises, total.trans (by simp [ExtendTally.plus])⟩

/-! ### The range and the days -/

/-- The numbers of a range (R117). -/
theorem mem_rangeNumbers {first last n : Nat} : n ∈ rangeNumbers first last ↔ first ≤ n ∧ n ≤ last := by
  simp only [rangeNumbers, List.mem_map, List.mem_range]
  constructor
  · rintro ⟨k, hk, rfl⟩
    omega
  · intro h
    exact ⟨n - first, by omega, by omega⟩

/-- A range in its order is brought to at most 256 numbers (R117). -/
theorem adjustedLast_of_le {first sent : Nat} (h : first ≤ sent) :
    adjustedLast first sent = if 256 < sent - first + 1 then first + 255 else sent := by
  simp [adjustedLast, h, Config.maxRange]

/-- The floor an extension gives, with its days as adjusted (R117, R118). -/
theorem newFloor_extensionDays (expiry : Nat) (forever : Bool) (sent : Nat) :
    newFloor expiry (extensionDays forever sent) =
      if (if forever then expiry == 65535 else expiry == 65535 || expiry == 65534) = true then none
      else some (if forever then 65535 else min 65534 (expiry + max 1 (min 36500 sent))) := by
  cases forever with
  | false => exact if_congr (by simp [Config.permanentDay, Config.capDay]) rfl rfl
  | true => exact if_congr (by simp [Config.permanentDay]) rfl rfl

theorem atEnd_extensionDays (s : State) (forever : Bool) (sent : Nat) (r : Extent) :
    s.atEnd (extensionDays forever sent) r =
      if forever then s.expiry r == 65535 else s.expiry r == 65535 || s.expiry r == 65534 := by
  rw [State.atEnd, newFloor_extensionDays]
  generalize (if forever then s.expiry r == 65535 else s.expiry r == 65535 || s.expiry r == 65534) = ends
  cases ends <;> rfl

theorem raised_extensionDays (s : State) (forever : Bool) (sent : Nat) (r : Extent) :
    s.raised (extensionDays forever sent) r =
      if r.retained = true ∧ s.atEnd (extensionDays forever sent) r = false then
        { r with floor := some (if forever then 65535 else min 65534 (s.expiry r + max 1 (min 36500 sent))) }
      else r := by
  rw [State.raised, atEnd_extensionDays, newFloor_extensionDays]
  generalize (if forever then s.expiry r == 65535 else s.expiry r == 65535 || s.expiry r == 65534) = ends
  cases ends <;> simp [Extent.extend]

theorem extensionDays_getD (forever : Bool) (sent : Nat) : (extensionDays forever sent).getD Config.permanentDay =
    if forever then 65535 else max 1 (min 36500 sent) := by
  cases forever <;> rfl

/-! ### The command -/

variable {h : HandOver} {c : Capsule}

/-- The checks of R117 in their order; then the range is extended, with its record and page write (R118, R119). -/
theorem exec_extend {first sent sentDays : Nat} {forever : Bool}
    (R : Reaches s h c (.extend first sent forever sentDays) []) :
    let no (code : Code) : Host.Outcome State Fault Refusal := .next (s.answered c .refused code none [])
    let last := adjustedLast first sent
    let days := extensionDays forever sentDays
    let p := (s.takeMark c.master).extendAll first last days
    exec (.extend h) s =
      if sent < first then no .badRange
      else if s.journal.pages - 8 ≤ s.journal.used then no .journalFull
      else if 56 ≤ s.journal.buffer.length then no .journalBacklog
      else .next ((p.1.record (.master c.master) (p.2.subject first last days)).judgePage.finish c s.cport.role .ok
        (p.2.fields last)) := by
  intro no last days p
  have hand : exec (.extend h) s = .next ((s.takeMark c.master).conclude c
      (judgeExtend (Ctx.of s c []) (.extend first sent forever sentDays) (s.takeMark c.master))) :=
    congrArg _ (State.handOver_of_reaches R judgeExtend)
  rw [hand]
  simp only [judgeExtend, State.takeMark_frame, exhausted_eq_true, backlog_eq_true, apply_ite (State.conclude _ c),
    apply_ite Host.Outcome.next, State.conclude_refuse, State.conclude_done]
  rfl

theorem expiry_takeMark (s : State) (m : Master) : (s.takeMark m).expiry = s.expiry := by
  funext r
  rw [State.expiry, State.expiry, State.classEntry_takeMark]

/-- Settles O48: the checks one after the other (`exec_extend`), then what the range comes to (`extendAll_spec`). -/
theorem extendRaisesFloors : Obligations.ExtendRaisesFloors := by
  intro s h c first sent forever sentDays R no last days ends floor numbers count extended unchanged notRetained
    notPresent scrubbing
  rw [exec_extend R]
  refine ⟨fun order => if_pos order, fun order full => ?_, fun order room full => ?_, fun order room free => ?_⟩
  · rw [if_neg (by omega), if_pos full]
  · rw [if_neg (by omega), if_neg (by omega), if_pos full]
  · have hlast : adjustedLast first sent = last := adjustedLast_of_le order
    have hends (r : Extent) : (s.takeMark c.master).atEnd (extensionDays forever sentDays) r = ends r := by
      rw [atEnd_extensionDays, expiry_takeMark]
    have hfloor (r : Extent) :
        (if forever then 65535 else min 65534 (s.expiry r + max 1 (min 36500 sentDays))) = floor r := by
      cases forever <;> simp [floor, days]
    obtain ⟨raises, counts⟩ := extendAll_spec (s.takeMark c.master) first last (extensionDays forever sentDays)
    rw [if_neg (by omega), if_neg (by omega), if_neg (by omega), hlast]
    refine ⟨_, raises.frame, raises.keys.trans (by simp), raises.next.trans (by simp),
      raises.length.trans (by simp), fun n => ?_, ?_⟩
    · rw [raises.extents n, State.extent_takeMark]
      congr 1
      funext r
      rw [raised_extensionDays, hends r, expiry_takeMark, hfloor r, if_congr mem_rangeNumbers rfl rfl, ← ite_and]
      exact if_congr and_assoc rfl rfl
    · have hcounts : (s.takeMark c.master).extendCounts (extensionDays forever sentDays) (rangeNumbers first last) =
          ⟨extended, unchanged, notRetained, notPresent, scrubbing⟩ := by
        simp only [State.extendCounts, State.extent_takeMark, List.countP_eq_length_filter, hends]
        rfl
      rw [counts, hcounts, ExtendTally.subject, extensionDays_getD]
      rfl

end Sys2Proof.Machine
end

section
/-! SUPPORT. The legal holds as their owner places, lifts and lists them (R121 to R133). -/

namespace Sys2Proof.Machine

/-! ### What the checks read -/

/-- A region with every page used is closed to capsule commands (R161). -/
theorem full_eq_true (j : Journal) : j.full = true ↔ j.pages ≤ j.counter := decide_eq_true_iff

/-- An absent part of a scope is accepted; a group has 12 bits, and a range is in order (R123). -/
theorem Scope.accepted_eq (scope : Scope) : scope.accepted =
    (scope.group.all (fun g => decide (g ≤ 4095)) && scope.days.all (fun p => decide (p.1 ≤ p.2)) &&
      scope.extents.all (fun p => decide (p.1 ≤ p.2))) := by
  have ordered (range : Option (Nat × Nat)) : orderedRange range = range.all (fun p => decide (p.1 ≤ p.2)) := by
    cases range <;> rfl
  unfold Scope.accepted
  rw [ordered, ordered]
  cases scope.group <;> rfl

/-- A matter has no hold on the list, or the first hold that names it is found with its position (R121). -/
theorem HoldList.find_cases (l : HoldList) (matter : Nat) :
    (l.find matter = none ∧ l.list.findIdx? (fun x => x.matter == matter) = none ∧
      l.list.find? (fun x => x.matter == matter) = none) ∨
    ∃ i x, l.find matter = some (i, x) ∧ l.list.findIdx? (fun x => x.matter == matter) = some i ∧
      l.list.find? (fun x => x.matter == matter) = some x ∧ x.matter = matter := by
  rw [List.find?_eq_bind_findIdx?_getElem?]
  cases hi : l.list.findIdx? (fun x => x.matter == matter) with
  | none => exact .inl (by simp [HoldList.find, hi])
  | some i =>
    obtain ⟨hlt, names, _⟩ := List.findIdx?_eq_some_iff_getElem.1 hi
    exact .inr ⟨i, l.list[i], by simp [HoldList.find, hi, hlt], rfl, by simp [hlt], beq_iff_eq.1 names⟩

/-- A placement comes too late for the extent at SCRUBBING if its scope covers it (R128). -/
theorem lateExtent_eq (s : State) (scope : Scope) : s.lateExtent scope =
    (s.et.records.find? (fun r => r.state == .disposing && r.sub == some .scrubbing)).filter scope.covers := by
  unfold State.lateExtent
  rw [show (fun r : Extent => r.state == .disposing && r.sub == some .scrubbing) = (·.isScrubbing) from rfl]
  cases s.et.records.find? (·.isScrubbing) <;> rfl

theorem lateExtent_takeMark (s : State) (m : Master) (scope : Scope) :
    (s.takeMark m).lateExtent scope = s.lateExtent scope := by
  simp [State.lateExtent]

/-! ### The three commands -/

/-- Settles O49: each command's checks one after the other, by whether the matter has a hold (`HoldList.find_cases`) or
the position is on the list; what a placement is late for is `lateExtent_eq`. -/
theorem holdsArePlacedLiftedListed : Obligations.HoldsArePlacedLiftedListed := by
  refine ⟨fun s h c matter scope R => ?place, fun s h c matter R => ?lift, fun s h c index R => ?list,
    fun _ _ _ _ _ => rfl⟩
  case place =>
    intro no n accepted late new revision u v
    have hlate : (s.takeMark c.master).lateExtent scope = late := (lateExtent_takeMark ..).trans (lateExtent_eq s scope)
    have haccepted : scope.accepted = accepted := scope.accepted_eq
    have hnew : (s.takeMark c.master).newHold matter scope = new := by
      simp [State.newHold, hlate, new]
    have hplaced : (s.takeMark c.master).placeHold (Ctx.of s c []).origin matter scope = v.judgePage := by
      simp only [State.placeHold, State.addHold, hnew, hlate, State.takeMark_frame]
      rfl
    refine (congrArg Host.Outcome.next (State.handOver_of_reaches R judgeHoldPlace)).trans ?_
    simp only [judgeHoldPlace, State.takeMark_frame, hlate, hnew, hplaced, haccepted, backlog_eq_true, full_eq_true]
    obtain ⟨hfind, hi, hx⟩ | ⟨i, x, hfind, hi, hx, _⟩ := s.holds.find_cases matter
    · simp only [hfind, hi, hx, Bool.not_eq_true', apply_ite (State.conclude _ c), apply_ite Host.Outcome.next,
        State.conclude_refuse, State.conclude_done]
      rfl
    · simp only [hfind, hi, hx, Bool.not_eq_true', apply_ite (State.conclude _ c), apply_ite Host.Outcome.next,
        State.conclude_refuse]
      rfl
  case lift =>
    intro no revision
    refine (congrArg Host.Outcome.next (State.handOver_of_reaches R judgeHoldLift)).trans ?_
    simp only [judgeHoldLift, State.takeMark_frame, backlog_eq_true, full_eq_true]
    obtain ⟨hfind, hi, hx⟩ | ⟨i, x, hfind, hi, hx, names⟩ := s.holds.find_cases matter
    · simp only [hfind, hi, hx, apply_ite (State.conclude _ c), apply_ite Host.Outcome.next, State.conclude_refuse]
      rfl
    · simp only [hfind, hi, hx, State.liftHold, names, State.takeMark_frame, apply_ite (State.conclude _ c),
        apply_ite Host.Outcome.next, State.conclude_refuse, State.conclude_done]
      rfl
  case list =>
    refine (congrArg Host.Outcome.next (State.handOver_of_reaches R judgeHoldList)).trans ?_
    simp only [judgeHoldList, State.takeMark_frame]
    cases hx : s.holds.list[index]? with
    | some x =>
      rw [if_pos (List.getElem?_eq_some_iff.1 hx).1]
      exact congrArg _ (State.conclude_done ..)
    | none =>
      rw [if_neg (Nat.not_lt.2 (List.getElem?_eq_none_iff.1 hx))]
      exact congrArg _ (State.conclude_done ..)

end Sys2Proof.Machine
end

section
/-! SUPPORT. The issue of a page write: the page filled, the thresholds judged on it, and at general exhaustion the return
of the disposal queue (R149, R158, R160). -/

namespace Sys2Proof.Machine

/-! ### Returns to COMMITTED, one after the other -/

/-- A record that R6 lets return, brought back to COMMITTED. -/
def Extent.committedAgain (r : Extent) : Extent := { r with state := .committed, sub := none, attempts := none }

theorem returned_eq_ite (r : Extent) : r.returned = if r.returnable then r.committedAgain else r := rfl

theorem returnable_returned (r : Extent) : r.returned.returnable = false := by
  rw [returned_eq_ite]
  split
  · rfl
  · next h => exact Bool.eq_false_iff.2 h

/-- A second return changes nothing more. -/
theorem returned_returned (r : Extent) : r.returned.returned = r.returned := by
  rw [returned_eq_ite r.returned, returnable_returned, if_neg Bool.false_ne_true]

/-- The extent has a record that R6 lets return. -/
def State.mayReturn (s : State) (n : Nat) : Bool := (s.extent n).any (·.returnable)

theorem mayReturn_congr {s t : State} (h : t.extent = s.extent) : t.mayReturn = s.mayReturn := by
  funext n
  rw [State.mayReturn, State.mayReturn, h]

theorem map_returned_of_not_mayReturn {s : State} {n : Nat} (h : s.mayReturn n = false) :
    (s.extent n).map Extent.returned = s.extent n := by
  cases hr : s.extent n with
  | none => rfl
  | some r =>
    have : r.returnable = false := by simpa [State.mayReturn, hr] using h
    simp [returned_eq_ite, this]

theorem map_returned_of_mayReturn {s : State} {n : Nat} (h : s.mayReturn n = true) :
    (s.extent n).map Extent.returned = (s.extent n).map Extent.committedAgain := by
  cases hr : s.extent n with
  | none => rfl
  | some r =>
    have : r.returnable = true := by simpa [State.mayReturn, hr] using h
    simp [returned_eq_ite, this]

theorem mayReturn_of_disposing {s : State} {n : Nat}
    (h : ∃ r, s.extent n = some r ∧ r.state = .disposing ∧ r.sub ≠ some .scrubbing) : s.mayReturn n = true := by
  obtain ⟨r, hr, hd, hs⟩ := h
  simp [State.mayReturn, hr, Extent.returnable, hd, hs]

theorem returnEntry_of_mayReturn {s : State} {e : QueueEntry} (h : s.mayReturn e.ext = true) :
    s.returnEntry e = (s.modExtent e.ext Extent.returned).leaveQueue e .returned := if_pos h

theorem returnEntry_of_not_mayReturn {s : State} {e : QueueEntry} (h : s.mayReturn e.ext = false) :
    s.returnEntry e = s := if_neg (Bool.eq_false_iff.1 h)

theorem extent_returnEntry (s : State) (e : QueueEntry) (n : Nat) :
    (s.returnEntry e).extent n = if n = e.ext then (s.extent n).map Extent.returned else s.extent n := by
  cases hm : s.mayReturn e.ext with
  | true =>
    rw [returnEntry_of_mayReturn hm, State.extent_congr (s := s.modExtent e.ext Extent.returned) (by simp),
      State.extent_modExtent s e.ext Extent.returned_number]
    split
    · rfl
    · exact congrFun Option.map_id _
  | false =>
    rw [returnEntry_of_not_mayReturn hm]
    split
    · next hn => exact (map_returned_of_not_mayReturn (hn ▸ hm)).symm
    · rfl

/-- An extent that has returned does not return again. -/
theorem mayReturn_returnEntry (s : State) (e : QueueEntry) (n : Nat) :
    (s.returnEntry e).mayReturn n = (n != e.ext && s.mayReturn n) := by
  rw [State.mayReturn, extent_returnEntry]
  by_cases hn : n = e.ext
  · cases hr : s.extent e.ext <;> simp [hn, hr, returnable_returned]
  · simp [hn, State.mayReturn]

/-- An entry whose extent may return takes every entry of that extent off the queue. -/
theorem engine_returnEntry (s : State) (e : QueueEntry) :
    (s.returnEntry e).engine = { s.engine with
      queue := s.engine.queue.filter (fun q => !(q.ext == e.ext && s.mayReturn q.ext)) } := by
  cases hm : s.mayReturn e.ext with
  | true =>
    rw [returnEntry_of_mayReturn hm]
    simp only [State.leaveQueue, State.countExit_frame, State.withEngine_engine, State.modExtent, State.withEt_engine]
    refine congrArg (Engine.mk · _) (List.filter_congr fun q _ => ?_)
    by_cases hq : q.ext = e.ext
    · simp [hq, hm]
    · simp [bne, beq_eq_false_iff_ne.2 hq]
  | false =>
    rw [returnEntry_of_not_mayReturn hm, List.filter_eq_self.2 fun q _ => ?_]
    by_cases hq : q.ext = e.ext
    · simp [hq, hm]
    · simp [hq]

theorem extent_foldReturn (l : List QueueEntry) (s : State) (n : Nat) :
    (l.foldl State.returnEntry s).extent n =
      if n ∈ l.map (·.ext) then (s.extent n).map Extent.returned else s.extent n := by
  induction l generalizing s with
  | nil => rfl
  | cons e l ih =>
    rw [List.foldl_cons, ih, extent_returnEntry]
    have htwice : Extent.returned ∘ Extent.returned = Extent.returned := funext returned_returned
    by_cases hn : n = e.ext
    · simp [hn, htwice]
    · simp [hn]

theorem engine_foldReturn (l : List QueueEntry) (s : State) :
    (l.foldl State.returnEntry s).engine = { s.engine with
      queue := s.engine.queue.filter (fun q => !(l.any (fun e => q.ext == e.ext) && s.mayReturn q.ext)) } := by
  induction l generalizing s with
  | nil => simp
  | cons e l ih =>
    rw [List.foldl_cons, ih, engine_returnEntry, List.filter_filter]
    refine congrArg (Engine.mk · _) (List.filter_congr fun q _ => ?_)
    rw [mayReturn_returnEntry, List.any_cons, bne]
    cases q.ext == e.ext <;> simp

section
variable {s : State} {l : List QueueEntry}
  (h : ∀ e ∈ l, s.mayReturn e.ext = true)
include h

/-- Every extent of the entries is COMMITTED again (R149). -/
theorem extent_foldReturn_of_disposing {e : QueueEntry} (he : e ∈ l) :
    (l.foldl State.returnEntry s).extent e.ext = (s.extent e.ext).map Extent.committedAgain := by
  rw [extent_foldReturn, if_pos (List.mem_map_of_mem he), map_returned_of_mayReturn (h e he)]

/-- A queue of which every entry returns is empty (R149). -/
theorem engine_foldReturn_all (hq : s.engine.queue = l) :
    (l.foldl State.returnEntry s).engine = { s.engine with queue := [] } := by
  rw [engine_foldReturn, hq, List.filter_eq_nil_iff.2 fun e he => ?_]
  simp only [h e he, Bool.and_true, Bool.not_eq_true', Bool.not_eq_false]
  exact List.any_eq_true.2 ⟨e, he, beq_self_eq_true _⟩

/-- A queue of which every entry behind the head returns is its head (R149). -/
theorem engine_foldReturn_rest {e : QueueEntry} (hq : s.engine.queue = e :: l) (hne : ∀ x ∈ l, x.ext ≠ e.ext) :
    (l.foldl State.returnEntry s).engine = { s.engine with queue := [e] } := by
  have hrest := engine_foldReturn_all (s := s.withEngine { s.engine with queue := l }) h rfl
  rw [engine_foldReturn] at hrest ⊢
  have hgone : l.filter (fun q => !(l.any (fun e => q.ext == e.ext) && s.mayReturn q.ext)) = [] :=
    congrArg Engine.queue hrest
  have hhead : l.any (fun x => e.ext == x.ext) = false :=
    List.any_eq_false.2 fun x hx => by simpa using (hne x hx).symm
  rw [hq, List.filter_cons_of_pos (by rw [hhead]; rfl), hgone]

end

/-! ### General exhaustion -/

/-- A head whose scrub has not been issued returns with the rest of the queue, and a waiting SCRUB goes (R83, R149). -/
theorem returnQueue_of_not_scrubbed {s : State} (hs : s.engine.stage ≠ .scrubbing) (hr : s.engine.stage ≠ .recording) :
    s.returnQueue = (s.engine.queue.foldl State.returnEntry (s.withMedia
      { s.media with waiting := s.media.waiting.filter (fun x => !x.isScrub) })).setStage .idle := by
  unfold State.returnQueue
  split
  · next h => exact absurd h hs
  · next h => exact absurd h hr
  · rfl

/-- A head whose scrub has been issued goes on, and the rest of the queue returns (R149). -/
theorem returnQueue_of_scrubbed {s : State} {e : QueueEntry} {rest : List QueueEntry}
    (hg : s.engine.stage = .scrubbing ∨ s.engine.stage = .recording) (hq : s.engine.queue = e :: rest) :
    s.returnQueue = rest.foldl State.returnEntry s := by
  rcases hg with hg | hg <;> simp [State.returnQueue, hg, hq]

theorem returnQueue_channel (s : State) : s.returnQueue.media.channel = s.media.channel := by
  unfold State.returnQueue
  split <;> simp

theorem exhaust_channel (s : State) : s.exhaust.media.channel = s.media.channel := by
  simp [State.exhaust, returnQueue_channel]

theorem exhaust_split (s : State) : s.exhaust.storeMap.split = none := by
  simp [State.exhaust, split_failSplit]

/-- Of the journal, general exhaustion changes the waiting requests alone (R33). -/
theorem exhaust_journal (s : State) : ∃ w, s.exhaust.journal = { s.journal with waits := w } := by
  simpa [State.exhaust] using failSplit_journal s .journalFull

/-- A queue whose scrubs have not been issued returns whole (R149). -/
theorem exhaust_of_not_scrubbed {s : State} (hs : s.engine.stage ≠ .scrubbing) (hr : s.engine.stage ≠ .recording)
    (h : ∀ e ∈ s.engine.queue, s.mayReturn e.ext = true) :
    s.exhaust.engine = ⟨[], .idle⟩ ∧
      (∀ e ∈ s.engine.queue, s.exhaust.extent e.ext = (s.extent e.ext).map Extent.committedAgain) ∧
      s.exhaust.media.waiting = s.media.waiting.filter (fun x => !x.isScrub) := by
  obtain ⟨v, hv⟩ : ∃ v, v = (s.failSplit .journalFull).withMedia
      { s.media with waiting := s.media.waiting.filter (fun x => !x.isScrub) } := ⟨_, rfl⟩
  have hx : v.extent = s.extent := State.extent_congr (by simp [hv])
  have hq : v.engine.queue = s.engine.queue := by simp [hv]
  have hu : s.exhaust = (s.engine.queue.foldl State.returnEntry v).setStage .idle := by
    rw [State.exhaust, returnQueue_of_not_scrubbed (by simpa using hs) (by simpa using hr), hv]
    simp
  rw [← mayReturn_congr hx] at h
  rw [hu, ← hx]
  refine ⟨?_, fun e he => ?_, ?_⟩
  · rw [State.setStage, State.withEngine_engine, engine_foldReturn_all h hq]
  · rw [← extent_foldReturn_of_disposing h he]
    exact congrFun (State.extent_congr (by simp)) _
  · simp [hv]

/-- Behind a head whose scrub has been issued the queue returns (R149). -/
theorem exhaust_of_scrubbed {s : State} {e : QueueEntry} {rest : List QueueEntry}
    (hg : s.engine.stage = .scrubbing ∨ s.engine.stage = .recording) (hq : s.engine.queue = e :: rest)
    (h : ∀ x ∈ rest, s.mayReturn x.ext = true)
    (hne : ∀ x ∈ rest, x.ext ≠ e.ext) :
    s.exhaust.engine = ⟨[e], s.engine.stage⟩ ∧
      (∀ x ∈ rest, s.exhaust.extent x.ext = (s.extent x.ext).map Extent.committedAgain) ∧
      s.exhaust.extent e.ext = s.extent e.ext ∧ s.exhaust.media.waiting = s.media.waiting := by
  obtain ⟨v, hv⟩ : ∃ v, v = s.failSplit .journalFull := ⟨_, rfl⟩
  have hx : v.extent = s.extent := State.extent_congr (by simp [hv])
  have hen : v.engine = s.engine := by simp [hv]
  have hu : s.exhaust = rest.foldl State.returnEntry v := by
    rw [State.exhaust, ← hv, returnQueue_of_scrubbed (hen ▸ hg) (hen ▸ hq)]
  rw [← mayReturn_congr hx] at h
  rw [hu, ← hx]
  refine ⟨?_, fun x hxr => extent_foldReturn_of_disposing h hxr, ?_, by simp [hv]⟩
  · rw [engine_foldReturn_rest h (hen ▸ hq) hne, hen]
  · rw [extent_foldReturn, if_neg]
    intro hin
    obtain ⟨x, hxr, he⟩ := List.mem_map.1 hin
    exact hne x hxr he

/-! ### The issue of a page write -/

/-- The page list once the oldest records are on the next page (R158). -/
def Journal.withPage (j : Journal) : Journal :=
  { j with pageList := j.pageList ++ [.issued j.flushed (min 32 j.buffer.length)] }

theorem withPage_used (j : Journal) : j.withPage.used = j.counter + 1 := by
  simp [Journal.used, Journal.withPage, PageEntry.isIssued]

/-- The state with the page on the channel, before the thresholds are judged (R158). -/
def State.flyPage (s : State) (op : MediaOp) : State := (s.fly op).withJournal s.journal.withPage

/-- JOURNAL_LOW is judged on the pages used (R160). -/
def State.judgeLow (s : State) : State :=
  if s.journal.used = s.journal.lowMark then s.raise .journalLow none else s

@[simp] theorem State.judgeLow_frame (s : State) :
    s.judgeLow.media = s.media ∧ s.judgeLow.journal = s.journal ∧ s.judgeLow.engine = s.engine ∧
      s.judgeLow.storeMap = s.storeMap ∧ s.judgeLow.et = s.et := by
  unfold State.judgeLow
  split <;> simp

/-- JOURNAL_LOW is pending where its route leads once the pages used are at its mark (R160). -/
theorem mem_judgeLow_of_routed {s : State} (h : s.journal.used = s.journal.lowMark) {m : Master}
    (hm : s.routed .journalLow m = true) : .journalLow ∈ s.judgeLow.pendingSet m := by
  rw [State.judgeLow, if_pos h]
  exact mem_raise_of_routed none hm

/-- General exhaustion is judged on the pages used (R160). -/
def State.judgeGeneral (s : State) : State := if s.journal.used = s.journal.exhaustMark then s.exhaust else s

/-- Whatever is judged, the channel stays, and the journal but for its waiting requests; no event is lost. -/
theorem judgeGeneral_keeps (s : State) :
    s.judgeGeneral.media.channel = s.media.channel ∧ (∃ w, s.judgeGeneral.journal = { s.journal with waits := w }) ∧
      ∀ m c, c ∈ s.pendingSet m → c ∈ s.judgeGeneral.pendingSet m := by
  unfold State.judgeGeneral
  split
  · exact ⟨exhaust_channel s, exhaust_journal s, (Aside.exhaust s).rest.events⟩
  · exact ⟨rfl, ⟨_, rfl⟩, fun _ _ h => h⟩

theorem Aside.flyPage (s : State) (op : MediaOp) : Aside s (s.flyPage op) :=
  (Aside.fly s op).trans (Aside.ofJournal (s.fly op) _ s.journal.waits)

/-- A page write is issued: the page, JOURNAL_LOW, then general exhaustion (R158, R160). -/
theorem issue_page {s : State} {op : MediaOp} {k : Nat} (hr : op.requester = .journalWrite k) :
    s.issue op = (s.flyPage op).judgeLow.judgeGeneral := by
  have hjournal : (s.flyPage op).judgeLow.journal = s.journal.withPage := by simp [State.flyPage]
  rw [State.issue, hr, State.judgeGeneral, hjournal]
  rfl

/-- Settles O29: `v` is the state with the page issued and JOURNAL_LOW judged, which general exhaustion follows at its
mark (`issue_page`, `exhaust_of_not_scrubbed`, `exhaust_of_scrubbed`). -/
theorem pageIssueJudgesTheThresholds : Obligations.PageIssueJudgesTheThresholds := by
  intro s op k hr _ t u queued returned
  obtain ⟨v, hv⟩ : ∃ v, v = (s.flyPage op).judgeLow := ⟨_, rfl⟩
  have ht : t = v.judgeGeneral := by
    rw [hv]
    exact issue_page hr
  have hmedia : v.media = { s.media with channel := some ⟨op, s.clock.tick⟩ } := by simp [hv, State.flyPage, State.fly]
  have hjournal : v.journal = s.journal.withPage := by simp [hv, State.flyPage]
  have hengine : v.engine = s.engine := by simp [hv, State.flyPage]
  have hstores : v.storeMap = s.storeMap := by simp [hv, State.flyPage]
  have het : v.et = s.et := by simp [hv, State.flyPage]
  have hextent : v.extent = s.extent := State.extent_congr (by rw [het])
  have hmay : v.mayReturn = s.mayReturn := mayReturn_congr hextent
  have hlow (hu : u = s.journal.pages - s.journal.pages / 16) (m : Master) (hm : s.routed .journalLow m = true) :
      .journalLow ∈ v.pendingSet m := by
    rw [hv]
    exact mem_judgeLow_of_routed ((withPage_used _).trans hu) (((Aside.flyPage s op).routed _ m).trans hm)
  have hmark : v.journal.used = v.journal.exhaustMark ↔ u = s.journal.pages - 8 := by
    rw [hjournal, withPage_used]
    rfl
  have hat (hu : u = s.journal.pages - 8) : t = v.exhaust := ht.trans (if_pos (hmark.2 hu))
  have hoff (hu : u ≠ s.journal.pages - 8) : t = v := ht.trans (if_neg (mt hmark.1 hu))
  obtain ⟨hchannel, ⟨w, hw⟩, hevents⟩ := judgeGeneral_keeps v
  rw [← ht] at hchannel hw hevents
  rw [hmedia] at hchannel
  rw [hjournal] at hw
  clear_value t
  refine ⟨hchannel, by rw [hw]; rfl, by rw [hw]; exact withPage_used s.journal, by rw [hw]; rfl, by rw [hw]; rfl,
    fun hu m hm => hevents m _ (hlow hu m hm), fun hu => ?_, fun hu hs hg hall => ?_, fun hu hg e rest hq hall => ?_,
    fun hu => ?_⟩
  · rw [hat hu]
    exact exhaust_split v
  · have := exhaust_of_not_scrubbed (s := v) (hengine ▸ hs) (hengine ▸ hg)
      (by rw [hengine, hmay]; exact fun e he => mayReturn_of_disposing (hall e he))
    rwa [hengine, hextent, hmedia, ← hat hu] at this
  · have := exhaust_of_scrubbed (s := v) (hengine ▸ hg) (hengine ▸ hq)
      (by rw [hmay]; exact fun x hx => mayReturn_of_disposing (hall x hx).1) fun x hx => (hall x hx).2
    rwa [hengine, hextent, hmedia, ← hat hu] at this
  · rw [hoff hu]
    exact ⟨hengine, hstores, het⟩

end Sys2Proof.Machine
end

section
/-! SUPPORT. The journal: the record entered and its check (R152 to R154, R161, R189), and the conditions of a page write
(R157); then the statements about both. -/

namespace Sys2Proof.Machine

/-! ### A record entered or counted -/

theorem Journal.hasPlace_iff (j : Journal) : j.hasPlace = true ↔ j.buffer.length < 64 := decide_eq_true_iff

/-- With a buffer place free the record is entered (R152, R153, R154). -/
theorem State.record_eq_enter {s : State} (o : Origin) (x : Subject) (h : s.journal.buffer.length < 64) :
    s.record o x = s.enter o x :=
  if_pos ((Journal.hasPlace_iff _).2 h)

/-- With all places occupied the record is counted (R161). -/
theorem State.record_eq_countOverflow {s : State} (o : Origin) (x : Subject) (h : 64 ≤ s.journal.buffer.length) :
    s.record o x = s.countOverflow :=
  if_neg fun hp => Nat.not_lt.2 h ((Journal.hasPlace_iff _).1 hp)

/-- The part of a record that its check covers: 8 + 4 + 1 + 1 bytes and the padded subject (R189). -/
theorem recordBody_length (seq seconds : Nat) (o : Origin) (x : Subject) :
    (recordBody seq seconds o x).length = 124 := by
  simp only [recordBody, List.length_append, le_length, padTo_length]

/-- A record is its body and the four bytes of its check (R189). -/
theorem Record.bytes_length (r : Record) : r.bytes.length = 128 := by
  rw [Record.bytes, List.length_append, recordBody_length, le_length]

/-- Settles O22: a free place decides between the entry and the count. -/
theorem recordsAreChained : Obligations.RecordsAreChained :=
  ⟨fun s o x =>
    ⟨fun room => ⟨recordBody_length s.journal.nextSeq s.clock.seconds o x, State.record_eq_enter o x room⟩,
      State.record_eq_countOverflow o x⟩,
    Record.bytes_length⟩

/-! ### When a page write is due -/

/-- While no page is in flight the pages used are those of the counter (R158). -/
theorem Journal.used_eq_counter {j : Journal} (h : ∀ e ∈ j.pageList, e.isIssued = false) : j.used = j.counter := by
  have none_issued : j.pageList.any (·.isIssued) = false := by simpa using h
  simp [Journal.used, none_issued]

theorem State.pageAged_iff (s : State) :
    s.pageAged = true ↔
      ∃ e rest, s.journal.buffer = e :: rest ∧ e.entered + s.settings.partialTime ≤ s.clock.tick := by
  unfold State.pageAged
  cases hb : s.journal.buffer with
  | nil => simp
  | cons e rest => simp

/-- The three conditions of R157: no page write waits or is in flight, a page is left, and there is a full page of records
or the oldest has waited its time. -/
theorem State.pageDue_iff (s : State) :
    s.pageDue = true ↔
      (∀ op ∈ s.media.waiting, op.isPage = false) ∧ (∀ e ∈ s.journal.pageList, e.isIssued = false) ∧
        s.journal.counter < s.journal.pages ∧ (32 ≤ s.journal.buffer.length ∨ s.pageAged = true) := by
  simp only [State.pageDue, Bool.and_eq_true, Bool.or_eq_true, Bool.not_eq_true', List.any_eq_false,
    Bool.not_eq_true, decide_eq_true_eq, and_assoc]
  refine and_congr_right fun _ => and_congr_right fun idle => ?_
  rw [Journal.used_eq_counter idle]
  rfl

theorem State.judgePage_of_due {s : State} (h : s.pageDue = true) :
    s.judgePage = s.place ⟨.journalWrite s.journal.counter, none, s.journal.base + s.journal.counter, 1⟩ :=
  if_pos h

theorem State.judgePage_of_not_due {s : State} (h : ¬ s.pageDue = true) : s.judgePage = s := if_neg h

/-- Settles O30: `pageDue` is what R157 says. -/
theorem pageWritesArePlacedWhenDue : Obligations.PageWritesArePlacedWhenDue := by
  intro s due op
  have due_iff : s.pageDue = true ↔ due := by rw [s.pageDue_iff, s.pageAged_iff]
  exact ⟨fun h => State.judgePage_of_due (due_iff.2 h), fun h => State.judgePage_of_not_due (mt due_iff.1 h)⟩

end Sys2Proof.Machine
end

section
/-! SUPPORT. What a hand-over answers before the owner of its kind is asked: an unknown kind or a wrong length and
STARTING (R166 steps 1 and 2), a tag that a slot holds (R169), and the fragment checks (R170). -/

namespace Sys2Proof.Machine

variable {s : State} {h : HandOver} {c : Capsule} {k : Kind} {n : Nat}

/-! ### Answers without the owner -/

/-- A capsule of a row's kind whose answer no owner gives is the whole step of its row; for SPLIT the answer leaves the
stores, so that no split comes to ask for a place (R32). -/
theorem exec_command_of_handOver {t : State} (answer : ∀ owner, s.handOver h k owner = t)
    (kept : t.storeMap = s.storeMap) : exec (k.command h) s = .next t := by
  cases k with
  | split =>
    refine congrArg Host.Outcome.next ?_
    rw [answer judgeSplit]
    split
    · rfl
    · next none_pending =>
      have idle : t.storeMap.split = none := by simpa [kept] using none_pending
      rw [State.askSplit_none idle]
      exact if_pos rfl
  | _ => exact congrArg Host.Outcome.next (answer _)

@[simp] theorem storeMap_answered (s : State) (c : Capsule) (d : Disposition) (code : Code) (slot : Option Nat)
    (fields : List Byte) : (s.answered c d code slot fields).storeMap = s.storeMap := by
  simp [State.answered]

/-- A receipt formed after the mark is taken is the capsule's answer. -/
theorem respond_takeMark (s : State) (c : Capsule) (d : Disposition) (code : Code) (slot : Option Nat)
    (fields : List Byte) :
    (s.takeMark c.master).respond c.master (c.reply (s.takeMark c.master).cport.role d code slot fields) =
      s.answered c d code slot fields := by
  simp [State.answered]

theorem handOver_of_shape (received : s.received h = some c) (shape : c.shape = some (k, n))
    (owner : Ctx → Req → State → Verdict) :
    s.handOver h k owner = (s.takeMark c.master).judge c k n owner := by
  simp only [State.handOver, received, shape, if_true]

theorem handOver_starting (received : s.received h = some c) (shape : c.shape = some (k, n)) (early : s.taking = false)
    (owner : Ctx → Req → State → Verdict) : s.handOver h k owner = s.answered c .refused .starting none [] := by
  rw [handOver_of_shape received shape, State.judge, State.taking_takeMark, early, ← respond_takeMark]
  rfl

theorem handOver_of_held (received : s.received h = some c) (shape : c.shape = some (k, n)) (taking : s.taking = true)
    (allowed : k.takenFrom c.master s.cport.role = true) {i : Nat} (held : s.tagSlot c.master c.tag = some i)
    (owner : Ctx → Req → State → Verdict) : s.handOver h k owner = (s.takeMark c.master).heldTag c i := by
  simp only [handOver_of_shape received shape, State.judge, State.taking_takeMark, taking, State.takeMark_frame,
    allowed, State.tagSlot_takeMark, held, Bool.not_true, Bool.false_eq_true, if_false]

theorem handOver_of_fragments (received : s.received h = some c) (shape : c.shape = some (k, n))
    (taking : s.taking = true) (allowed : k.takenFrom c.master s.cport.role = true)
    (fresh : s.tagSlot c.master c.tag = none) {code : Code}
    (failed : s.fragmentCheck c.master (c.request k) (c.fragments k n) = some code)
    (owner : Ctx → Req → State → Verdict) : s.handOver h k owner = s.answered c .refused code none [] := by
  simp only [handOver_of_shape received shape, State.judge, State.taking_takeMark, taking, State.takeMark_frame,
    allowed, State.tagSlot_takeMark, fresh, State.fragmentCheck_takeMark, failed, Bool.not_true, Bool.false_eq_true,
    if_false, State.answered]

/-! ### Unknown kinds and wrong lengths (R166, R175, R177) -/

theorem shape_eq_none_of_kind (hk : Kind.ofCode c.kindByte.toNat = none) : c.shape = none := by
  simp only [Capsule.shape, hk]

/-- A node's capsule has the length of its kind and up to 16 entries, and at most the window's. -/
theorem shape_node_eq_none {m : Node} (hm : c.master = .node m) (hk : Kind.ofCode c.kindByte.toNat = some k) :
    c.shape = none ↔ ∀ n, n ≤ 16 → c.length ≤ 512 → c.length ≠ 4 + k.operandBytes + 16 * n := by
  simp only [Capsule.shape, hk, hm, ite_eq_right_iff, reduceCtorEq, imp_false, Bool.and_eq_true, decide_eq_true_eq,
    beq_iff_eq]
  constructor
  · intro wrong n hn short len
    exact wrong ⟨⟨short, by omega⟩, by omega⟩
  · rintro wrong ⟨⟨short, len⟩, hn⟩
    exact wrong _ hn short len

/-- A CPORT capsule has the length of its kind, at most 128. -/
theorem shape_cport_eq_none (hm : c.master = .cport) (hk : Kind.ofCode c.kindByte.toNat = some k) :
    c.shape = none ↔ (c.length ≤ 128 → c.length ≠ 4 + k.operandBytes) := by
  simp [Capsule.shape, hk, hm]

theorem shape_eq_none_iff (c : Capsule) : c.shape = none ↔
    ∀ k n, Kind.ofCode c.kindByte.toNat = some k →
      match c.master with
      | .node _ => n ≤ 16 → c.length ≤ 512 → c.length ≠ 4 + k.operandBytes + 16 * n
      | .cport => c.length ≤ 128 → c.length ≠ 4 + k.operandBytes := by
  cases hk : Kind.ofCode c.kindByte.toNat with
  | none => simp [shape_eq_none_of_kind hk]
  | some k =>
    cases hm : c.master with
    | node m =>
      exact (shape_node_eq_none hm hk).trans
        ⟨fun wrong k' n e => by cases e; exact wrong n, fun wrong n => wrong k n rfl⟩
    | cport =>
      exact (shape_cport_eq_none hm hk).trans
        ⟨fun wrong k' n e => by cases e; exact wrong, fun wrong => wrong k 0 rfl⟩

theorem refuseKind_of_no_shape (received : s.received h = some c) (shape : c.shape = none) :
    s.refuseKind h = s.answered c .refused (if s.taking then .badKind else .starting) none [] := by
  simp only [State.refuseKind, received, shape, State.answered]

/-- Settles O14: the row BAD_KIND, the lengths of each master's capsules, and the first check of every other row. -/
theorem earlyRefusalsComeInOrder : Obligations.EarlyRefusalsComeInOrder :=
  ⟨fun _ _ _ received shape => congrArg Host.Outcome.next (refuseKind_of_no_shape received shape), shape_eq_none_iff,
    fun _ _ _ _ _ received shape early =>
      exec_command_of_handOver (handOver_starting received shape early) (storeMap_answered ..)⟩

/-! ### Tags that a slot holds (R169) -/

/-- The slot that the search for a tag finds holds it (R166 step 4). -/
theorem slot_of_tagSlot {m : Master} {tag : Byte} {i : Nat} (held : s.tagSlot m tag = some i) :
    ∃ v, s.slot ⟨m, i⟩ = some v ∧ v.tag? = some tag := by
  obtain ⟨hi, found, _⟩ := List.findIdx?_eq_some_iff_getElem.1 held
  exact ⟨_, List.getElem?_eq_getElem hi, beq_iff_eq.1 found⟩

theorem heldTag_running {i : Nat} {held : Held} {w : Work} (hs : s.slot ⟨c.master, i⟩ = some (.running held w)) :
    (s.takeMark c.master).heldTag c i =
      if held.capsule = c.body then s.answered c .pending .ok (some i) []
      else s.answered c .refused .tagConflict none [] := by
  simp only [State.heldTag, State.slot_takeMark, hs, beq_iff_eq, respond_takeMark]

theorem heldTag_finished {i : Nat} {held : Held} {r : Result} (hs : s.slot ⟨c.master, i⟩ = some (.finished held r)) :
    (s.takeMark c.master).heldTag c i =
      if held.capsule = c.body then
        ((s.takeMark c.master).freeCollected ⟨c.master, i⟩).finish c s.cport.role r.code r.fields
      else s.answered c .refused .tagConflict none [] := by
  simp only [State.heldTag, State.slot_takeMark, hs, beq_iff_eq, State.finish, State.answered, State.takeMark_frame]

/-- A collected slot becomes FREE, on CPORT together with its page buffer; there no mark is taken (R169, R177). -/
theorem freeCollected_takeMark (s : State) (m : Master) (i : Nat) :
    (s.takeMark m).freeCollected ⟨m, i⟩ = match m with
      | .node _ => (s.takeMark m).setSlot ⟨m, i⟩ .free
      | .cport => { s with cport := { s.cport with
          slots := s.cport.slots.set i .free, pageBuffers := s.cport.pageBuffers.set i [] } } := by
  cases m <;> rfl

/-- Settles O16: the slot that is found holds the tag, and the capsule's row is what `State.heldTag` makes of it. -/
theorem heldTagsAreAnsweredBySlot : Obligations.HeldTagsAreAnsweredBySlot := by
  intro s h c k n i received shape taking allowed held
  obtain ⟨v, hs, tag⟩ := slot_of_tagSlot held
  refine ⟨v, hs, tag, ?_⟩
  have hand : exec (k.command h) s = .next ((s.takeMark c.master).heldTag c i) :=
    exec_command_of_handOver (handOver_of_held received shape taking allowed held) (by simp)
  cases v with
  | running held w =>
    rw [heldTag_running hs, apply_ite Host.Outcome.next] at hand
    exact hand
  | finished held r =>
    rw [heldTag_finished hs, apply_ite Host.Outcome.next, freeCollected_takeMark] at hand
    exact hand
  | free => cases tag
  | detached w => cases tag

/-! ### The fragment checks (R170) -/

theorem carriesFragments_iff (k : Kind) : k.carriesFragments = true ↔ k = .append ∨ k = .read := by
  cases k <;> decide

theorem shaped_iff (f : Fragment) :
    f.shaped = true ↔ f.addr % 512 = 0 ∧ 512 ≤ f.len ∧ f.len ≤ 131072 ∧ f.len % 512 = 0 := by
  simp [Fragment.shaped, and_assoc]

theorem any_unshaped_iff (l : List Fragment) :
    (l.isEmpty || l.any (fun f => !f.shaped)) = true ↔
      l = [] ∨ ¬ ∀ f ∈ l, f.addr % 512 = 0 ∧ 512 ≤ f.len ∧ f.len ≤ 131072 ∧ f.len % 512 = 0 := by
  simp only [← shaped_iff, Bool.or_eq_true, List.isEmpty_iff, List.any_eq_true, Bool.not_eq_true', not_forall,
    Bool.not_eq_true, exists_prop]

/-- A block count that an APPEND or READ may have, to which the fragments do not sum up. -/
theorem total_mismatch_iff (l : List Fragment) (count : Nat) :
    (decide (1 ≤ count) && decide (count ≤ Config.maxRun) && fragmentTotal l != count * Config.blockBytes) = true ↔
      1 ≤ count ∧ count ≤ 32 ∧ (l.map (·.len)).sum ≠ count * 4096 := by
  simp only [Bool.and_eq_true, decide_eq_true_eq, bne_iff_ne, and_assoc]
  rfl

theorem any_outside_iff (w : LinkState) (l : List Fragment) :
    l.any (fun f => f.addr < w.base * 65536 || (w.limit + 1) * 65536 < f.addr + f.len) = true ↔
      ¬ ∀ f ∈ l, w.base * 65536 ≤ f.addr ∧ f.addr + f.len ≤ (w.limit + 1) * 65536 := by
  simp only [List.any_eq_true, Bool.or_eq_true, decide_eq_true_eq, not_forall, exists_prop, not_and_or, not_le]

/-- Settles O17: each check as R170 says it, CPORT without checks, and the refusal of the first that fails. -/
theorem fragmentListsAreChecked : Obligations.FragmentListsAreChecked := by
  refine ⟨fun s n q l => ?_, fun _ _ _ => rfl, fun s h c k n code received shape taking allowed fresh failed => ?_⟩
  · have plain : (!q.kind.carriesFragments) = true ↔ q.kind ≠ .append ∧ q.kind ≠ .read := by
      rw [Bool.not_eq_true', ← Bool.not_eq_true, carriesFragments_iff, not_or]
    exact if_congr plain (if_congr List.isEmpty_iff rfl rfl) <| if_congr .rfl rfl <|
      if_congr (any_unshaped_iff l) rfl <| if_congr (total_mismatch_iff l q.blocks) rfl <|
      if_congr (any_outside_iff (s.link n) l) rfl rfl
  · exact exec_command_of_handOver (handOver_of_fragments received shape taking allowed fresh failed)
      (storeMap_answered ..)

end Sys2Proof.Machine
end

section
/-! SUPPORT. The node links and CPORT below the capsules: training, the MSI-enabled flag, writes into the capsule window
(R165, R173), the one stop of the model (log 16), and the reads of receipts (R165, R176). -/

namespace Sys2Proof.Machine

/-! ### The one stop (log 16) -/

/-- A command whose outcome is a next state. -/
def GoesOn (o : Host.Outcome State Fault Refusal) : Prop := ∃ t, o = .next t

theorem GoesOn.next (t : State) : GoesOn (.next t) := ⟨t, rfl⟩

theorem GoesOn.ite {p : Prop} [Decidable p] {a b : Host.Outcome State Fault Refusal} (ha : GoesOn a) (hb : GoesOn b) :
    GoesOn (if p then a else b) := by
  split
  · exact ha
  · exact hb

/-- Every command but a write into the capsule window goes on, in every state: it acts always, under a condition, or in
the cases of what it finds. -/
theorem exec_goesOn (i : Instr) (s : State) (other : ∀ n offset bytes, i ≠ .capsuleWindowWrite n offset bytes) :
    GoesOn (exec i s) := by
  cases i with
  | capsuleWindowWrite n offset bytes => exact absurd rfl (other n offset bytes)
  | openExtent | append | close | abandon | read | verify | query | find | status | window | time | events | dispose
  | holdPlace | holdLift | holdList | extend | classSet | classGet | policyFix | adopt | route | split | journalRead
  | badKind | cportPartialCapsule | openTimeout | mediaFaultVoid | integrityRecord | disposed | disposalFailed
  | splitApply | openTimeoutDue | powerLoss => exact .next _
  | resetNAssert | linkReset | linkUp | msiEnableWrite | cportReceiptRead | cmodeSample | roleChange | tick | holdover
  | partialPageTime | splitTimeout | headTake | coalescedClockState => exact .ite (.next _) (.next _)
  | noCapsule r => cases r <;> exact .ite (.next _) (.next _)
  | powerOn | resetNRelease | recoveryVoid | start | readersDrained | mediaAnswerLimit | fetchComplete | fetchFailed
  | readDmaComplete | readDmaFailed | dmaReadTimeout | appendProgramOk | appendProgramMediaError | trailerOk
  | trailerMediaError | readFetchOk | readFetchMediaError | verifyFetchOk | verifyFetchMediaError
  | journalReadFetchDone | scrubCompleteOk | scrubMediaError | journalWriteOk | journalWriteMediaError =>
    simp only [exec, execPowerOn, execResetNRelease, execRecoveryVoid, execStart, execReadersDrained,
      execMediaAnswerLimit, execFetchComplete, execFetchFailed, execReadDmaComplete, execReadDmaFailed,
      execDmaReadTimeout, execAppendProgramOk, execAppendProgramMediaError, execTrailerOk, execTrailerMediaError,
      execReadFetchOk, execReadFetchMediaError, execVerifyFetchOk, execVerifyFetchMediaError,
      execJournalReadFetchDone, execScrubCompleteOk, execScrubMediaError, execJournalWriteOk,
      execJournalWriteMediaError]
    repeat' split
    all_goals exact .next _

theorem insideWindow_iff (offset : Nat) (bytes : List Byte) :
    insideWindow offset bytes = true ↔ offset < 512 ∧ offset + bytes.length ≤ 512 := by
  rw [insideWindow, Bool.and_eq_true, decide_eq_true_eq, decide_eq_true_eq]
  rfl

theorem exec_windowWrite_inside {s : State} {n : Node} {offset : Nat} {bytes : List Byte}
    (inside : offset < 512 ∧ offset + bytes.length ≤ 512) : exec (.capsuleWindowWrite n offset bytes) s =
      .next (if s.reachable n then s.writeWindow n offset bytes else s) := by
  rw [apply_ite Host.Outcome.next]
  exact if_neg (by simp [(insideWindow_iff offset bytes).2 inside])

/-- A write faults exactly where it does not lie within the window. -/
theorem exec_windowWrite_fault_iff (s : State) (n : Node) (offset : Nat) (bytes : List Byte) :
    512 ≤ offset ∨ 512 < offset + bytes.length ↔
      exec (.capsuleWindowWrite n offset bytes) s = .fault .outsideWindow := by
  by_cases inside : offset < 512 ∧ offset + bytes.length ≤ 512
  · rw [exec_windowWrite_inside inside]
    simp only [reduceCtorEq, iff_false]
    omega
  · have faults : exec (.capsuleWindowWrite n offset bytes) s = .fault .outsideWindow :=
      if_pos (by simpa using mt (insideWindow_iff offset bytes).1 inside)
    simp only [faults, iff_true]
    omega

/-- Nothing but a write outside the window stops the model. -/
theorem fault_of_exec {i : Instr} {s : State} {f : Fault} (stops : exec i s = .fault f) :
    ∃ n offset bytes, i = .capsuleWindowWrite n offset bytes ∧ (512 ≤ offset ∨ 512 < offset + bytes.length) := by
  by_contra none_outside
  by_cases write : ∃ n offset bytes, i = .capsuleWindowWrite n offset bytes
  · obtain ⟨n, offset, bytes, rfl⟩ := write
    have inside : ¬ (512 ≤ offset ∨ 512 < offset + bytes.length) := fun out => none_outside ⟨n, offset, bytes, rfl, out⟩
    rw [exec_windowWrite_inside (by omega)] at stops
    cases stops
  · obtain ⟨t, goes⟩ := exec_goesOn i s fun n offset bytes e => write ⟨n, offset, bytes, e⟩
    rw [goes] at stops
    cases stops

/-! ### The window's bytes (R165) -/

/-- A write within the window replaces its own bytes and no other. -/
theorem storeBytes_getElem? {window bytes : List Byte} {offset : Nat} (fits : offset + bytes.length ≤ window.length)
    (k : Nat) : (storeBytes window offset bytes)[k]? =
      if offset ≤ k ∧ k < offset + bytes.length then bytes[k - offset]? else window[k]? := by
  have front : (window.take offset).length = offset := by rw [List.length_take]; omega
  rw [storeBytes, List.append_assoc]
  by_cases before : k < offset
  · rw [List.getElem?_append_left (by omega), List.getElem?_take_of_lt before, if_neg (by omega)]
  rw [List.getElem?_append_right (by omega), front]
  by_cases within : k < offset + bytes.length
  · rw [List.getElem?_append_left (by omega), if_pos (by omega)]
  · rw [List.getElem?_append_right (by omega), List.getElem?_drop, if_neg (by omega)]
    congr 1
    omega

theorem reachable_of_up {s : State} {n : Node} (live : s.live = true) (up : (s.link n).up = true) :
    s.reachable n = true := by
  rw [State.reachable, live, up]
  rfl

/-- Settles O11: the link's own rows act on a live part; the window by `storeBytes_getElem?`, the stop by
`fault_of_exec`. -/
theorem linkTrainingFlagAndWindow : Obligations.LinkTrainingFlagAndWindow := by
  refine ⟨fun s n live => ⟨if_pos live, fun up enable => if_pos (reachable_of_up live up), ?_⟩,
    fun s n offset bytes => ⟨exec_windowWrite_fault_iff s n offset bytes, fun i f => fault_of_exec⟩⟩
  intro up whole offset bytes low fits
  refine ⟨storeBytes (s.link n).window offset bytes, ?_, ?_, fun k _ => storeBytes_getElem? (by omega) k⟩
  · rw [exec_windowWrite_inside ⟨low, fits⟩, if_pos (reachable_of_up live up)]
    rfl
  · rw [storeBytes_length (by omega), whole]

/-! ### Reads (R165, R176) -/

/-- The bytes of a padded field: those it is made of, then 0x00 (R187). -/
theorem padTo_getElem? {n k : Nat} (l : List Byte) (hk : k < n) : (padTo n l)[k]? = some ((l[k]?).getD 0) := by
  by_cases own : k < l.length
  · rw [padTo, List.getElem?_append_left (by rw [List.length_take]; omega), List.getElem?_take_of_lt hk,
      List.getElem?_eq_getElem own]
    rfl
  · rw [padTo, List.getElem?_append_right (by rw [List.length_take]; omega), List.length_take,
      List.getElem?_replicate_of_lt (by omega), List.getElem?_eq_none (by omega)]
    rfl

theorem readBytes_length (r : Receipt) (len : Nat) : (readBytes r len).length = len := padTo_length _ _

/-- A CPORT read returns the receipt's bytes, then 0x00 (R176). -/
theorem readBytes_getElem? (r : Receipt) {len k : Nat} (hk : k < len) :
    (readBytes r len)[k]? = some ((r.bytes[k]?).getD 0) := by
  rw [readBytes, padTo_getElem? _ hk, List.getElem?_take_of_lt hk]

theorem answers_own_address {s : State} (live : s.live = true) : s.answers s.settings.cportAddr = true := by
  simp [State.answers, live]

theorem unread_eq_false_iff (p : CPort) : p.unread = false ↔ ∀ l, p.last = some l → l.isRead = true := by
  cases h : p.last <;> simp [CPort.unread, h]

/-- An I2C read of an UNREAD receipt makes it READ once a byte was returned (R176). -/
theorem readReceipt_of_unread {s : State} {r : Receipt} (unread : s.cport.last = some ⟨r, false⟩) (len : Nat) :
    s.readReceipt len =
      { s with cport := { s.cport with last := some ⟨r, decide (0 < len)⟩, readOut := readBytes r len } } := by
  simp only [State.readReceipt, unread, Bool.false_eq_true, if_false]
  rfl

/-- Settles O12: both kinds of read that find no receipt, and the bytes of a read that finds one. -/
theorem readsFindTheirReceipt : Obligations.ReadsFindTheirReceipt := by
  refine ⟨fun s n live up clear => ?_, fun s len live last_read => ?_, fun s len r live unread some_byte =>
    ⟨readBytes r len, ?_, readBytes_length r len, fun k hk => readBytes_getElem? r hk⟩⟩
  · exact if_pos (by rw [reachable_of_up live up, clear]; rfl)
  · exact if_pos (by rw [answers_own_address live, (unread_eq_false_iff s.cport).2 last_read]; rfl)
  · have reads : exec (.cportReceiptRead s.settings.cportAddr len) s = .next (s.readReceipt len) :=
      if_pos (answers_own_address live)
    rw [reads, readReceipt_of_unread unread, decide_eq_true some_byte]

end Sys2Proof.Machine
end

section
/-! SUPPORT. The kinds that the link and the router own: WINDOW (R171), EVENTS and ROUTE (R182). -/

namespace Sys2Proof.Machine

variable {s : State} {h : HandOver} {c : Capsule}

/-! ### WINDOW (R171) -/

theorem exec_window {n : Node} {base limit : Nat} (hm : c.master = .node n)
    (R : Reaches s h c (.window base limit) []) :
    exec (.window h) s =
      .next (((s.takeMark c.master).withLink n
        { (s.takeMark c.master).link n with base := base, limit := limit }).finish c s.cport.role .ok
          (windowFields base limit)) := by
  have hand : exec (.window h) s = .next ((s.takeMark c.master).conclude c
      (judgeWindow (Ctx.of s c []) (.window base limit) (s.takeMark c.master))) :=
    congrArg _ (State.handOver_of_reaches R judgeWindow)
  rw [hand, ← State.conclude_done s _ c]
  simp only [judgeWindow, Ctx.of, hm]

/-- A link that is reset has the empty staging window (R173). -/
theorem staging_window_after_linkReset {s t : State} {n : Node} (live : s.live = true)
    (step : exec (.linkReset n) s = .next t) : (t.link n).base = 1 ∧ (t.link n).limit = 0 := by
  have reset : exec (.linkReset n) s = .next (s.resetLink n) := if_pos live
  cases reset.symm.trans step
  rw [(resetLink_eq s n).1]
  exact ⟨rfl, rfl⟩

/-! ### EVENTS (R182) -/

theorem pendingSet_takeMark (s : State) (m : Master) : (s.takeMark m).pendingSet = s.pendingSet :=
  State.pendingSet_congr (by simp)

/-- Emptying a pending set changes the router alone, and no route. -/
theorem clearSet_eq (s : State) (m : Master) :
    s.clearSet m = { s with router := (s.clearSet m).router } ∧ (s.clearSet m).router.routes = s.router.routes := by
  rcases m with (_ | _) | _ <;> exact ⟨rfl, rfl⟩

theorem exec_events (R : Reaches s h c .events []) :
    exec (.events h) s = .next (((s.takeMark c.master).clearSet c.master).finish c s.cport.role .ok
      (le 2 (classBits (s.pendingSet c.master)))) := by
  have hand : exec (.events h) s = .next ((s.takeMark c.master).conclude c
      (judgeEvents (Ctx.of s c []) .events (s.takeMark c.master))) :=
    congrArg _ (State.handOver_of_reaches R judgeEvents)
  rw [hand, ← State.conclude_done s _ c, ← pendingSet_takeMark s c.master]
  rfl

/-! ### ROUTE (R182) -/

/-- COMPLETION and FETCH_FAULT, and the numbers of no class, have no route. -/
theorem unroutable_of_bounds {cls : Nat} (bad : cls < 2 ∨ 10 < cls) :
    ∀ k, EventClass.ofCode cls = some k → k = .completion ∨ k = .fetchFault := by
  intro k hk
  have listed : cls < 11 := (List.getElem?_eq_some_iff.1 hk).1
  have low : cls = 0 ∨ cls = 1 := by omega
  rcases low with rfl | rfl <;> cases hk <;> decide

/-- The classes 2 to 10 have a route, and each its forced target (R180). -/
theorem routable_of_bounds {cls : Nat} (good : 2 ≤ cls ∧ cls ≤ 10) :
    ∃ k, EventClass.ofCode cls = some k ∧ ¬ (k = .completion ∨ k = .fetchFault) ∧
      forcedByte k = [if cls = 2 then Config.openerForcedByte else if cls < 7 then 0 else 4] := by
  obtain ⟨low, high⟩ := good
  interval_cases cls <;> exact ⟨_, rfl, by decide, rfl⟩

theorem exec_route {cls : Nat} {rt : Route} (R : Reaches s h c (.route cls rt) []) :
    exec (.route h) s =
      if cls < 2 ∨ 10 < cls then .next (s.answered c .refused .badRange none [])
      else .next (({ s.takeMark c.master with
        router := { s.router with routes := s.router.routes.set cls rt } }).finish c s.cport.role .ok
          (le 1 cls ++ le 1 rt.byte ++
            [if cls = 2 then Config.openerForcedByte else if cls < 7 then 0 else 4])) := by
  have hand : exec (.route h) s = .next ((s.takeMark c.master).conclude c
      (judgeRoute (Ctx.of s c []) (.route cls rt) (s.takeMark c.master))) :=
    congrArg _ (State.handOver_of_reaches R judgeRoute)
  rw [hand, ← State.conclude_refuse s c, ← State.conclude_done s _ c]
  by_cases bad : cls < 2 ∨ 10 < cls
  · rw [if_pos bad]
    cases hk : EventClass.ofCode cls with
    | none => simp only [judgeRoute, hk]
    | some k => simp only [judgeRoute, hk, if_pos (unroutable_of_bounds bad k hk)]
  · obtain ⟨k, hk, routable, forced⟩ := routable_of_bounds (cls := cls) (by omega)
    have router : (s.takeMark c.master).router = s.router := by simp
    simp only [if_neg bad, judgeRoute, hk, if_neg routable, forced, router]
    rfl

/-- Settles O19: each kind by what its owner answers; the reset of a link by `resetLink_eq`. -/
theorem windowEventsAndRoute : Obligations.WindowEventsAndRoute := by
  refine ⟨fun s h c n base limit hm R => exec_window hm R, fun s t n => staging_window_after_linkReset,
    fun s h c R => ⟨(s.takeMark c.master).clearSet c.master, exec_events R, ?_⟩, fun s h c cls rt R => exec_route R⟩
  obtain ⟨router_alone, routes⟩ := clearSet_eq (s.takeMark c.master) c.master
  refine ⟨?_, fun m other => ?_, router_alone, by simp [routes]⟩
  · rw [pendingSet_clearSet, if_pos rfl]
  · rw [pendingSet_clearSet, if_neg other, pendingSet_takeMark]

end Sys2Proof.Machine
end

section
/-! SUPPORT. The step and the rows that need no owner: the queue's front (log 1), partial I2C writes (R175, log 13), the
role table (R179), and the CMODE samples (R178). -/

namespace Sys2Proof.Machine

/-! ### The step (log 1) -/

theorem step_of_empty {s : State} (empty : s.pending = []) : step s = .next s := by
  simp only [step, empty]

theorem step_of_front {s : State} {c : Instr} {rest : List Instr} (front : s.pending = c :: rest) :
    step s = exec c (s.withPending rest) := by
  simp only [step, front]

/-- Settles O1: both forms of the queue. -/
theorem stepRunsTheFrontCommand : Obligations.StepRunsTheFrontCommand :=
  fun _ => ⟨step_of_empty, fun _ _ => step_of_front⟩

/-! ### Partial I2C writes (R175) -/

theorem completeWrite_iff (bytes : List Byte) :
    completeWrite bytes = true ↔ 4 ≤ bytes.length ∧ (128 < field 0 2 bytes ∨ field 0 2 bytes ≤ bytes.length) := by
  simp only [completeWrite, Bool.and_eq_true, Bool.or_eq_true, decide_eq_true_eq]

theorem received_write (s : State) (addr : BitVec 7) (bytes : List Byte) :
    s.received (.write addr bytes) =
      if s.answers addr && completeWrite bytes then some ⟨.cport, bytes.take 128⟩ else none := rfl

/-- Where nothing is handed over, no row of a capsule kind does anything. -/
theorem handOver_of_none {s : State} {h : HandOver} (nothing : s.received h = none) (k : Kind)
    (owner : Ctx → Req → State → Verdict) : s.handOver h k owner = s := by
  simp only [State.handOver, nothing]

theorem refuseKind_of_none {s : State} {h : HandOver} (nothing : s.received h = none) : s.refuseKind h = s := by
  simp only [State.refuseKind, nothing]

/-- Settles O13: a write that ends early is no complete one, so that nothing is received; a complete one at the part's
own address is. -/
theorem partialWritesAreDiscarded : Obligations.PartialWritesAreDiscarded := by
  refine fun s addr bytes => ⟨rfl, fun partly => ?_, fun live own header complete => ?_⟩
  · have incomplete : ¬ completeWrite bytes = true := by
      rw [completeWrite_iff]
      omega
    have nothing : s.received (.write addr bytes) = none := by
      rw [received_write, if_neg (by simp [incomplete])]
    exact ⟨nothing, fun k => exec_command_of_handOver (handOver_of_none nothing k) rfl,
      congrArg Host.Outcome.next (refuseKind_of_none nothing)⟩
  · rw [received_write, own, answers_own_address live, (completeWrite_iff bytes).2 ⟨header, complete⟩]
    rfl

/-! ### Roles (R179) -/

/-- R179's table for a node link: nothing of it depends on the role. -/
theorem takenFrom_node (k : Kind) (n : Node) (role : Role) : k.takenFrom (.node n) role = true ↔
    k ∉ [.holdPlace, .holdLift, .extend, .classSet, .policyFix, .split, .adopt, .route, .journalRead] := by
  cases k <;> simp [Kind.takenFrom]

/-- R179's table for CPORT in COMPLIANCE: all but what needs a node's memory or clock. -/
theorem takenFrom_compliance (k : Kind) :
    k.takenFrom .cport .compliance = true ↔ k ∉ [.openExtent, .append, .close, .read, .window, .time] := by
  cases k <;> simp [Kind.takenFrom]

/-- R179's table for CPORT in EXAMINER: the kinds that only report. -/
theorem takenFrom_examiner (k : Kind) : k.takenFrom .cport .examiner = true ↔
    k ∈ [.verify, .query, .find, .status, .events, .holdList, .classGet, .journalRead] := by
  cases k <;> simp [Kind.takenFrom]

/-- ROLE is answered before the tag and the owner are looked at (R166 step 3). -/
theorem handOver_of_role {s : State} {h : HandOver} {c : Capsule} {k : Kind} {n : Nat}
    (received : s.received h = some c) (shape : c.shape = some (k, n)) (taking : s.taking = true)
    (refused : k.takenFrom c.master s.cport.role = false) (owner : Ctx → Req → State → Verdict) :
    s.handOver h k owner = s.answered c .refused .role none [] := by
  simp only [handOver_of_shape received shape, State.judge, State.taking_takeMark, taking, State.takeMark_frame,
    refused, Bool.not_true, Bool.not_false, Bool.false_eq_true, if_false, if_true, State.answered]

/-- Settles O15: the table origin by origin and role by role; the refusal by `handOver_of_role`. -/
theorem rolesDecideWhichKindsAreTaken : Obligations.RolesDecideWhichKindsAreTaken := by
  refine ⟨fun k m role => ?_, fun s h c k n received shape taking refused =>
    exec_command_of_handOver (handOver_of_role received shape taking refused) (storeMap_answered ..)⟩
  cases m with
  | node n => exact takenFrom_node k n role
  | cport =>
    cases role with
    | compliance => simpa using takenFrom_compliance k
    | examiner => simpa using takenFrom_examiner k

/-! ### CMODE (R178) -/

theorem exec_cmodeSample {s : State} (live : s.live = true) (low : Bool) : exec (.cmodeSample low) s =
    .next { s with cport := s.cport.sample s.settings.cmodeN (roleOfLevel low) } := if_pos live

theorem exec_roleChange {s : State} (live : s.live = true) :
    exec .roleChange s = .next { s with cport := s.cport.turned s.settings.cmodeN } := if_pos live

theorem turned_of_reached {p : CPort} {n : Nat} (reached : n ≤ p.count) :
    p.turned n = { p with role := p.candidate, count := 0 } := if_pos reached

theorem turned_of_below {p : CPort} {n : Nat} (below : p.count < n) : p.turned n = p := if_neg (by omega)

/-- Settles O21: a sample is `CPort.sample`, and ROLE_CHANGE turns the role where the count stands at N. -/
theorem cmodeSamplesDecideTheRole : Obligations.CmodeSamplesDecideTheRole := by
  refine fun s low live => ⟨exec_cmodeSample live low, fun reached => ?_, fun below => ?_⟩
  · rw [exec_roleChange live, turned_of_reached reached]
  · rw [exec_roleChange live, turned_of_below below]

end Sys2Proof.Machine
end

section
/-! SUPPORT. Raising a class (R180, R181): what it does to one target, then to its three targets one after the other. -/

namespace Sys2Proof.Machine

/-! ### One target -/

/-- A target takes the classes raised for it: CPORT always, a link while it is up (R181). -/
def State.takes (s : State) : Master → Bool
  | .node n => (s.link n).up
  | .cport => true

/-- The messages that a link has sent. -/
def EventRouter.sent (r : EventRouter) : Node → Nat
  | .a => r.msiA
  | .b => r.msiB

/-- A class that is pending on a target, or raised for a link that is down, is raised without effect. -/
theorem raiseAt_of_not {s : State} {m : Master} {c : EventClass} (h : ¬ (s.takes m ∧ c ∉ s.pendingSet m)) :
    s.raiseAt m c = s := by
  unfold State.raiseAt
  split
  · rfl
  · next fresh =>
    have down : s.takes m = false := by simpa [show c ∉ s.pendingSet m by simpa using fresh] using h
    rcases m with (_ | _) | _
    · exact if_neg (by simpa [State.takes, State.link] using down)
    · exact if_neg (by simpa [State.takes, State.link] using down)
    · cases down

/-- A message counts 1 where the set was empty and messages are enabled. -/
theorem toNat_fills (l : List EventClass) (enabled : Bool) :
    (l.isEmpty && enabled).toNat = if l = [] ∧ enabled = true then 1 else 0 := by
  cases l <;> cases enabled <;> rfl

/-- Any other class that is raised joins the pending set, with a message of a link whose set was empty and whose node
has enabled them. -/
theorem raiseAt_of_joins {s : State} {m : Master} {c : EventClass} (h : s.takes m ∧ c ∉ s.pendingSet m) :
    (s.raiseAt m c).pendingSet m = s.pendingSet m ++ [c] ∧
      ∀ n, m = .node n → (s.raiseAt m c).router.sent n =
        s.router.sent n + (if s.pendingSet m = [] ∧ (s.link n).msiEnabled then 1 else 0) := by
  obtain ⟨up, fresh⟩ := h
  have fresh : ¬ (s.pendingSet m).contains c = true := by simpa using fresh
  unfold State.raiseAt
  rw [if_neg fresh]
  rcases m with (_ | _) | _
  · dsimp only
    rw [if_pos (show s.linkA.up = true from up)]
    refine ⟨rfl, fun n hn => ?_⟩
    cases hn
    exact congrArg (s.router.msiA + ·) (toNat_fills _ _)
  · dsimp only
    rw [if_pos (show s.linkB.up = true from up)]
    refine ⟨rfl, fun n hn => ?_⟩
    cases hn
    exact congrArg (s.router.msiB + ·) (toNat_fills _ _)
  · exact ⟨rfl, nofun⟩

/-- Only the router changes when a class is raised on a target. -/
theorem raiseAt_eq (s : State) (m : Master) (c : EventClass) :
    s.raiseAt m c = { s with router := (s.raiseAt m c).router } := by
  unfold State.raiseAt
  dsimp only
  repeat' split
  all_goals rfl

/-- A target takes a class into its pending set once, unless it is a link that is down. -/
theorem pendingSet_raiseAt_same (s : State) (m : Master) (c : EventClass) :
    (s.raiseAt m c).pendingSet m =
      if s.takes m ∧ c ∉ s.pendingSet m then s.pendingSet m ++ [c] else s.pendingSet m := by
  by_cases joins : s.takes m ∧ c ∉ s.pendingSet m
  · rw [if_pos joins, (raiseAt_of_joins joins).1]
  · rw [if_neg joins, raiseAt_of_not joins]

/-- A link sends one message for a set that fills, where its node has enabled them. -/
theorem sent_raiseAt_same (s : State) (n : Node) (c : EventClass) : (s.raiseAt (.node n) c).router.sent n =
    s.router.sent n +
      (if s.takes (.node n) ∧ s.pendingSet (.node n) = [] ∧ (s.link n).msiEnabled then 1 else 0) := by
  by_cases joins : s.takes (.node n) ∧ c ∉ s.pendingSet (.node n)
  · rw [(raiseAt_of_joins joins).2 n rfl]
    simp only [joins.1, true_and]
  · rw [raiseAt_of_not joins, if_neg]
    · rfl
    · rintro ⟨up, empty, -⟩
      exact joins ⟨up, by simp [empty]⟩

/-- A class raised on one target sends no message of another. -/
theorem sent_raiseAt_other (s : State) {m : Master} {n : Node} (c : EventClass) (other : m ≠ .node n) :
    (s.raiseAt m c).router.sent n = s.router.sent n := by
  unfold State.raiseAt
  split
  · rfl
  · rcases m with (_ | _) | _ <;> cases n
    case node.a.a | node.b.b => exact absurd rfl other
    all_goals
      dsimp only
      (try split) <;> rfl

/-! ### A target that a class may be raised on -/

/-- A class is raised on a target under a condition. -/
def State.raiseIf (s : State) (p : Bool) (m : Master) (c : EventClass) : State := if p then s.raiseAt m c else s

section
variable (s : State) (p : Bool) {m k : Master} (c : EventClass)

theorem raiseIf_eq (m : Master) : s.raiseIf p m c = { s with router := (s.raiseIf p m c).router } := by
  cases p
  · rfl
  · exact raiseAt_eq s m c

theorem pendingSet_raiseIf_same (m : Master) : (s.raiseIf p m c).pendingSet m =
    if (p && s.takes m) = true ∧ c ∉ s.pendingSet m then s.pendingSet m ++ [c] else s.pendingSet m := by
  cases p
  · simp [State.raiseIf]
  · exact pendingSet_raiseAt_same s m c

theorem pendingSet_raiseIf_other (other : k ≠ m) : (s.raiseIf p m c).pendingSet k = s.pendingSet k := by
  cases p
  · rfl
  · exact pendingSet_raiseAt_other s c other

theorem sent_raiseIf_same (n : Node) : (s.raiseIf p (.node n) c).router.sent n = s.router.sent n +
    (if (p && s.takes (.node n)) = true ∧ s.pendingSet (.node n) = [] ∧ (s.link n).msiEnabled then 1 else 0) := by
  cases p
  · simp [State.raiseIf]
  · exact sent_raiseAt_same s n c

theorem sent_raiseIf_other {n : Node} (other : m ≠ .node n) :
    (s.raiseIf p m c).router.sent n = s.router.sent n := by
  cases p
  · rfl
  · exact sent_raiseAt_other s c other

theorem link_raiseIf (m : Master) : (s.raiseIf p m c).link = s.link := by
  rw [raiseIf_eq]
  funext n
  cases n <;> rfl

theorem takes_raiseIf (m : Master) : (s.raiseIf p m c).takes = s.takes := by
  funext k
  cases k with
  | node n => simp only [State.takes, link_raiseIf]
  | cport => rfl

/-! ### The three targets -/

/-- A class is to be raised on a target: its route leads there, or the target is forced (R180). -/
def State.aims (s : State) (c : EventClass) (forced : Option Master) : Master → Bool
  | .node .a => (s.routeOf c).a || forced == some (.node .a)
  | .node .b => (s.routeOf c).b || forced == some (.node .b)
  | .cport => (s.routeOf c).cport || forced == some .cport

variable (f : Option Master)

theorem raise_eq_raiseIf : s.raise c f =
    ((s.raiseIf (s.aims c f (.node .a)) (.node .a) c).raiseIf (s.aims c f (.node .b)) (.node .b) c).raiseIf
      (s.aims c f .cport) .cport c := rfl

theorem raise_eq_router : s.raise c f = { s with router := (s.raise c f).router } := by
  rw [raise_eq_raiseIf, raiseIf_eq, raiseIf_eq (s.raiseIf _ _ _), raiseIf_eq s]

/-- Each target takes the class as if it were raised there alone. -/
theorem pendingSet_raise (m : Master) : (s.raise c f).pendingSet m =
    if (s.aims c f m && s.takes m) = true ∧ c ∉ s.pendingSet m then s.pendingSet m ++ [c] else s.pendingSet m := by
  rw [raise_eq_raiseIf]
  rcases m with (_ | _) | _ <;>
    simp only [pendingSet_raiseIf_same, ne_eq, Master.node.injEq, reduceCtorEq, not_false_eq_true,
      pendingSet_raiseIf_other, takes_raiseIf]

theorem sent_raise (n : Node) : (s.raise c f).router.sent n = s.router.sent n +
    (if (s.aims c f (.node n) && s.takes (.node n)) = true ∧ s.pendingSet (.node n) = [] ∧ (s.link n).msiEnabled
      then 1 else 0) := by
  rw [raise_eq_raiseIf]
  cases n <;>
    simp only [sent_raiseIf_same, ne_eq, Master.node.injEq, reduceCtorEq, not_false_eq_true, sent_raiseIf_other,
      pendingSet_raiseIf_other, takes_raiseIf, link_raiseIf]

end

theorem alert_iff (s : State) : s.alert = true ↔ s.pendingSet .cport ≠ [] := by
  simp [State.alert, State.pendingSet]

/-- Settles O20: the pending sets and messages target by target, and nothing but the router changes. -/
theorem raisedClassesJoinPendingSets : Obligations.RaisedClassesJoinPendingSets := by
  intro s k forced
  refine ⟨fun m => ?_, sent_raise s k forced .a, sent_raise s k forced .b, raise_eq_router s k forced,
    State.raise_routes s k forced, alert_iff _⟩
  rcases m with (_ | _) | _
  · exact pendingSet_raise s k forced _
  · exact pendingSet_raise s k forced _
  · simpa [State.aims, State.takes] using pendingSet_raise s k forced .cport

end Sys2Proof.Machine
end

section
/-! SUPPORT. The queue of waiting commands: no command touches it (log 1). -/

namespace Sys2Proof.Machine

/-! ### Capsules -/

/-- The owner of a capsule kind's checks. -/
def Kind.owner : Kind → Ctx → Req → State → Verdict
  | .openExtent => judgeOpen
  | .append => judgeAppend
  | .close => judgeClose
  | .abandon => judgeAbandon
  | .read => judgeRead
  | .verify => judgeVerify
  | .query => judgeQuery
  | .find => judgeFind
  | .status => judgeStatus
  | .window => judgeWindow
  | .time => judgeTime
  | .events => judgeEvents
  | .dispose => judgeDispose
  | .holdPlace => judgeHoldPlace
  | .holdLift => judgeHoldLift
  | .holdList => judgeHoldList
  | .extend => judgeExtend
  | .classSet => judgeClassSet
  | .classGet => judgeClassGet
  | .policyFix => judgePolicyFix
  | .adopt => judgeAdopt
  | .route => judgeRoute
  | .split => judgeSplit
  | .journalRead => judgeJournalRead

/-- The row of a capsule kind is the hand-over to its owner. -/
theorem exec_command {k : Kind} (other : k ≠ .split) (h : HandOver) (s : State) :
    exec (k.command h) s = .next (s.handOver h k k.owner) := by
  cases k with
  | split => exact absurd rfl other
  | _ => rfl

theorem pending_classifyAll (m : Master) (slot : Option SlotRef) (l : List Nat) (s : State) (t : Tally) :
    (State.classifyAll m slot l s t).1.pending = s.pending := by
  induction l generalizing s t with
  | nil => rfl
  | cons n l ih =>
    unfold State.classifyAll
    split
    · rfl
    · split <;> simp [ih]

theorem pending_extendOne (days : Option Nat) (p : State × ExtendTally) (n : Nat) :
    (State.extendOne days p n).1.pending = p.1.pending := by
  unfold State.extendOne
  dsimp only
  split
  · rfl
  · split
    · rfl
    · split <;> rfl

theorem pending_extendAll (s : State) (first last : Nat) (days : Option Nat) :
    (s.extendAll first last days).1.pending = s.pending := by
  have folded (l : List Nat) (p : State × ExtendTally) :
      (l.foldl (State.extendOne days) p).1.pending = p.1.pending := by
    induction l generalizing p with
    | nil => rfl
    | cons n l ih => rw [List.foldl_cons, ih, pending_extendOne]
  exact folded _ _

theorem pending_judgeOpenKey (u : State) (n : Node) (a b d e f : Nat) :
    ((judgeOpenKey u n a b d e f).after u).pending = u.pending := by
  unfold judgeOpenKey
  repeat' split
  all_goals simp

/-- No owner touches the queue: what a verdict leads to is made of operations that leave it. -/
theorem pending_owner (k : Kind) (x : Ctx) (q : Req) (u : State) :
    ((k.owner x q u).after u).pending = u.pending := by
  cases k with
  | openExtent =>
    simp only [Kind.owner, judgeOpen]
    repeat' split
    all_goals simp [pending_judgeOpenKey]
  | dispose =>
    simp only [Kind.owner, judgeDispose]
    repeat' split
    all_goals simp [pending_classifyAll]
  | extend =>
    simp only [Kind.owner, judgeExtend]
    repeat' split
    all_goals simp [pending_extendAll]
  | _ =>
    simp only [Kind.owner, judgeAppend, judgeClose, judgeAbandon, judgeRead, judgeVerify, judgeQuery, judgeFind,
      judgeStatus, judgeWindow, judgeTime, judgeEvents, judgeHoldPlace, judgeHoldLift, judgeHoldList, judgeClassSet,
      judgeClassGet, judgePolicyFix, judgeAdopt, judgeRoute, judgeSplit, judgeJournalRead]
    repeat' split
    all_goals simp

theorem pending_conclude (s : State) (c : Capsule) (v : Verdict) :
    (s.conclude c v).pending = (v.after s).pending := by
  cases v <;> simp [State.conclude]

theorem pending_judge (s : State) (c : Capsule) (k : Kind) (n : Nat) :
    (s.judge c k n k.owner).pending = s.pending := by
  unfold State.judge
  dsimp only
  split
  · simp
  · split
    · simp
    · split
      · simp
      · split
        · simp
        · rw [pending_conclude, pending_owner]

theorem pending_handOver (s : State) (h : HandOver) (k : Kind) : (s.handOver h k k.owner).pending = s.pending := by
  unfold State.handOver
  split
  · rfl
  · split
    · rfl
    · split
      · simp [pending_judge]
      · rfl

/-! ### Outcomes -/

/-- A command leaves the queue: the state it leads to, if any, has the queue of `s`. -/
def LeavesQueue (s : State) : Host.Outcome State Fault Refusal → Prop := Reaching fun t => t.pending = s.pending

theorem LeavesQueue.next {s t : State} (kept : t.pending = s.pending) : LeavesQueue s (.next t) := Reaching.next kept

/-- A row that acts under a condition. -/
theorem LeavesQueue.ite {s t : State} {p : Prop} [Decidable p] (kept : t.pending = s.pending) :
    LeavesQueue s (if p then .next t else .next s) := by
  split
  · exact .next kept
  · exact .next rfl

theorem leavesQueue_command (k : Kind) (h : HandOver) (s : State) : LeavesQueue s (exec (k.command h) s) := by
  by_cases split : k = .split
  · subst split
    have judged : (s.handOver h .split judgeSplit).pending = s.pending := pending_handOver s h .split
    refine .next ?_
    split <;> simp [judged]
  · rw [exec_command split]
    exact .next (pending_handOver s h k)

/-! ### Start-up and link reset -/

theorem pending_initializeTables (s : State) (l : Loaded) (arrayBlocks : Nat) :
    (s.initializeTables l arrayBlocks).pending = s.pending := by
  unfold State.initializeTables
  dsimp only
  split <;> rfl

theorem pending_recoverJournal (s : State) : s.recoverJournal.pending = s.pending := by
  unfold State.recoverJournal
  dsimp only
  split <;> simp

theorem pending_recover (s : State) (cause : Cause) (initialized : Bool) :
    (s.recover cause initialized).pending = s.pending := by
  simp [State.recover, pending_recoverJournal]

theorem pending_startUp (s : State) (cause : Cause) (env : StartEnv) : (s.startUp cause env).pending = s.pending := by
  unfold State.startUp
  dsimp only
  repeat' split
  all_goals simp [pending_recover, pending_initializeTables, State.volatileReset]

theorem pending_resetSlots (l : List SlotRef) (s : State) : (l.foldl State.resetSlot s).pending = s.pending := by
  induction l generalizing s with
  | nil => rfl
  | cons ref l ih => simp [ih]

theorem pending_resetLink (s : State) (n : Node) : (s.resetLink n).pending = s.pending := by
  simp [State.resetLink, pending_resetSlots]

/-! ### Every command -/

theorem exec_leavesQueue (i : Instr) (s : State) : LeavesQueue s (exec i s) := by
  cases i with
  | openExtent h => exact leavesQueue_command .openExtent h s
  | append h => exact leavesQueue_command .append h s
  | close h => exact leavesQueue_command .close h s
  | abandon h => exact leavesQueue_command .abandon h s
  | read h => exact leavesQueue_command .read h s
  | verify h => exact leavesQueue_command .verify h s
  | query h => exact leavesQueue_command .query h s
  | find h => exact leavesQueue_command .find h s
  | status h => exact leavesQueue_command .status h s
  | window h => exact leavesQueue_command .window h s
  | time h => exact leavesQueue_command .time h s
  | events h => exact leavesQueue_command .events h s
  | dispose h => exact leavesQueue_command .dispose h s
  | holdPlace h => exact leavesQueue_command .holdPlace h s
  | holdLift h => exact leavesQueue_command .holdLift h s
  | holdList h => exact leavesQueue_command .holdList h s
  | extend h => exact leavesQueue_command .extend h s
  | classSet h => exact leavesQueue_command .classSet h s
  | classGet h => exact leavesQueue_command .classGet h s
  | policyFix h => exact leavesQueue_command .policyFix h s
  | adopt h => exact leavesQueue_command .adopt h s
  | route h => exact leavesQueue_command .route h s
  | split h => exact leavesQueue_command .split h s
  | journalRead h => exact leavesQueue_command .journalRead h s
  | powerLoss | cportPartialCapsule => exact .next rfl
  | badKind | openTimeout | mediaFaultVoid | integrityRecord | disposed | disposalFailed | splitApply
  | openTimeoutDue => exact .next (by simp)
  | linkReset n => exact .ite (pending_resetLink s n)
  | resetNAssert => exact .ite rfl
  | linkUp | msiEnableWrite | cportReceiptRead | cmodeSample | roleChange | tick | holdover
  | partialPageTime | splitTimeout | headTake | coalescedClockState => exact .ite (by simp)
  | noCapsule r => cases r <;> exact .ite (by simp)
  | capsuleWindowWrite n offset bytes =>
    simp only [exec, execCapsuleWindowWrite]
    split
    · intro t faults
      cases faults
    · exact .ite (by simp)
  | powerOn | resetNRelease =>
    simp only [exec, execPowerOn, execResetNRelease]
    split
    · exact .next (pending_startUp s _ _)
    · exact .next rfl
  | recoveryVoid | start | readersDrained | mediaAnswerLimit | fetchComplete | fetchFailed
  | readDmaComplete | readDmaFailed | dmaReadTimeout | appendProgramOk | appendProgramMediaError | trailerOk
  | trailerMediaError | readFetchOk | readFetchMediaError | verifyFetchOk | verifyFetchMediaError
  | journalReadFetchDone | scrubCompleteOk | scrubMediaError | journalWriteOk | journalWriteMediaError =>
    simp only [exec, execRecoveryVoid, execStart, execReadersDrained,
      execMediaAnswerLimit, execFetchComplete, execFetchFailed, execReadDmaComplete, execReadDmaFailed,
      execDmaReadTimeout, execAppendProgramOk, execAppendProgramMediaError, execTrailerOk, execTrailerMediaError,
      execReadFetchOk, execReadFetchMediaError, execVerifyFetchOk, execVerifyFetchMediaError,
      execJournalReadFetchDone, execScrubCompleteOk, execScrubMediaError, execJournalWriteOk,
      execJournalWriteMediaError]
    repeat' split
    all_goals exact .next (by simp)

/-- Settles O2: the rows of the capsule kinds by their owners, every other row by the operations it is made of. -/
theorem commandsLeaveTheQueue : Obligations.CommandsLeaveTheQueue := fun i s => exec_leavesQueue i s

end Sys2Proof.Machine
end

section
/-! SUPPORT. Little-endian fields read back (R186), and the bytes of a capsule read back as what was sent (13.1,
R187). -/

namespace Sys2Proof.Machine

/-! ### Fields -/

theorem leNat_le (n v : Nat) : leNat (le n v) = v % 256 ^ n := by
  induction n generalizing v with
  | zero => simp [le, leNat, Nat.mod_one]
  | succ n ih =>
    rw [le, leNat, ih, BitVec.toNat_ofNat, Nat.pow_succ' (m := 256), Nat.mod_mul]

/-- A field is its low bytes, then the bytes of what is left. -/
theorem le_add (m n v : Nat) : le (m + n) v = le m v ++ le n (v / 256 ^ m) := by
  induction m generalizing v with
  | zero => simp [le]
  | succ m ih => rw [Nat.succ_add, le, ih, Nat.div_div_eq_div_mul, Nat.pow_succ', le, List.cons_append]

/-- The bytes within a field that opens the bytes. -/
theorem field_within {offset size n : Nat} (inside : offset + size ≤ n) (v : Nat) (rest : List Byte) :
    field offset size (le n v ++ rest) = v / 256 ^ offset % 256 ^ size := by
  obtain ⟨k, rfl⟩ := Nat.exists_eq_add_of_le inside
  rw [field, le_add, le_add, List.append_assoc, List.append_assoc, List.drop_left' (le_length ..),
    List.take_left' (le_length ..), leNat_le]

/-- A value that fits is read back from the field that opens the bytes. -/
theorem field_le {n v : Nat} (fits : fitsIn n v = true) (rest : List Byte) : field 0 n (le n v ++ rest) = v := by
  rw [field_within (by omega), Nat.pow_zero, Nat.div_one, Nat.mod_eq_of_lt (of_decide_eq_true fits)]

theorem field_le_last {n v : Nat} (fits : fitsIn n v = true) : field 0 n (le n v) = v := by
  simpa using field_le fits []

/-- A field behind other bytes. -/
theorem field_skip {offset size : Nat} {front : List Byte} (behind : front.length ≤ offset) (rest : List Byte) :
    field offset size (front ++ rest) = field (offset - front.length) size rest := by
  rw [field, List.drop_append, List.drop_eq_nil_of_le behind]
  rfl

theorem field_cons (offset size : Nat) (b : Byte) (rest : List Byte) :
    field (offset + 1) size (b :: rest) = field offset size rest := rfl

theorem flag_eq (b : Bool) : flag b = le 1 b.toNat := by
  cases b <;> rfl

theorem fitsIn_flag (b : Bool) : fitsIn 1 b.toNat = true := by
  cases b <;> rfl

theorem flag_toNat (b : Bool) : (b.toNat != 0) = b := by
  cases b <;> rfl

/-! ### Operands (13.1) -/

/-- The presence byte of a scope and the byte of a route carry three bits each. -/
theorem route_ofByte_byte (rt : Route) : Route.ofByte rt.byte = rt := by
  obtain ⟨a, b, c⟩ := rt
  cases a <;> cases b <;> cases c <;> rfl

theorem fitsIn_route (rt : Route) : fitsIn 1 rt.byte = true := by
  obtain ⟨a, b, c⟩ := rt
  cases a <;> cases b <;> cases c <;> decide

theorem scope_bytes_length (c : Scope) : c.bytes.length = 16 := by
  simp [Scope.bytes, orZero]

theorem req_bytes_length (q : Req) : q.bytes.length = q.kind.operandBytes := by
  cases q <;> simp [Req.bytes, Req.kind, Kind.operandBytes, flag, scope_bytes_length]

theorem field_orZero {n : Nat} {v : Option Nat} (fits : ∀ x ∈ v, fitsIn n x = true) (rest : List Byte) :
    field 0 n (orZero n v ++ rest) = v.getD 0 := by
  cases v with
  | none => exact field_le (decide_eq_true (by simp)) rest
  | some x => exact field_le (fits x rfl) rest

theorem orZero_length (n : Nat) (v : Option Nat) : (orZero n v).length = n := le_length ..

/-- An optional part is what its presence bit and its field say. -/
theorem ite_isSome_getD (v : Option Nat) : (if v.isSome = true then some (v.getD 0) else none) = v := by
  cases v <;> rfl

theorem ite_isSome_getD_pair (v : Option (Nat × Nat)) :
    (if v.isSome = true then some ((v.map (·.1)).getD 0, (v.map (·.2)).getD 0) else none) = v := by
  cases v <;> rfl

theorem fits_of_scope_fits {c : Scope} (fits : c.fits = true) : (∀ x ∈ c.group, fitsIn 2 x = true) ∧
    ((∀ x ∈ c.days.map (·.1), fitsIn 2 x = true) ∧ ∀ x ∈ c.days.map (·.2), fitsIn 2 x = true) ∧
    (∀ x ∈ c.extents.map (·.1), fitsIn 4 x = true) ∧ ∀ x ∈ c.extents.map (·.2), fitsIn 4 x = true := by
  obtain ⟨group, days, extents⟩ := c
  simp only [Scope.fits, Bool.and_eq_true] at fits
  obtain ⟨⟨group_fits, days_fit⟩, extents_fit⟩ := fits
  refine ⟨?_, ?_, ?_⟩
  · cases group <;> simp_all
  · cases days <;> simp_all
  · cases extents <;> simp_all

/-- A scope is read back: each part has its presence bit and its fields (R123, R187). -/
theorem scope_ofBytes_bytes {c : Scope} (fits : c.fits = true) : Scope.ofBytes c.bytes = c := by
  obtain ⟨group, ⟨first_day, last_day⟩, first_extent, last_extent⟩ := fits_of_scope_fits fits
  have presence := route_ofByte_byte ⟨c.group.isSome, c.days.isSome, c.extents.isSome⟩
  have presence_fits := fitsIn_route ⟨c.group.isSome, c.days.isSome, c.extents.isSome⟩
  simp only [Route.byte, Route.ofByte, Route.mk.injEq] at presence presence_fits
  obtain ⟨bit0, bit1, bit2⟩ := presence
  have last_field : field 0 4 (orZero 4 (c.extents.map (·.2))) = (c.extents.map (·.2)).getD 0 := by
    simpa using field_orZero last_extent []
  simp [Scope.ofBytes, Scope.bytes, field_le presence_fits, field_skip, field_cons, orZero_length,
    field_orZero group, field_orZero first_day, field_orZero last_day, field_orZero first_extent, last_field, bit0,
    bit1, bit2, ite_isSome_getD, ite_isSome_getD_pair]

theorem req_ofBytes_bytes {q : Req} (fits : q.fits = true) : Req.ofBytes q.kind q.bytes = q := by
  cases q with
  | holdPlace matter scope =>
    simp only [Req.fits, Bool.and_eq_true] at fits
    obtain ⟨matter_fits, scope_fits⟩ := fits
    simp only [Req.kind, Req.bytes, Req.ofBytes, field_le matter_fits, List.drop_left' (le_length ..),
      scope_ofBytes_bytes scope_fits]
  | _ =>
    simp only [Req.fits, Bool.and_eq_true] at fits
    simp [Req.kind, Req.bytes, Req.ofBytes, field_le, field_le_last, field_skip, field_cons, fits, flag_eq, flagAt,
      fitsIn_flag, route_ofByte_byte, fitsIn_route]

/-! ### Fragments -/

theorem fragment_bytes_length (f : Fragment) : f.bytes.length = 16 := by
  simp [Fragment.bytes]

theorem fragments_length (l : List Fragment) : (l.map Fragment.bytes).flatten.length = 16 * l.length := by
  induction l with
  | nil => rfl
  | cons f l ih =>
    rw [List.map_cons, List.flatten_cons, List.length_append, fragment_bytes_length, ih, List.length_cons]
    omega

/-- The entries of a fragment list are read back one after the other. -/
theorem fragmentsOf_bytes {l : List Fragment} (fit : ∀ f ∈ l, f.addr < 2 ^ 64 ∧ f.len < 2 ^ 32) (rest : List Byte) :
    fragmentsOf l.length ((l.map Fragment.bytes).flatten ++ rest) = l := by
  induction l with
  | nil => rfl
  | cons f l ih =>
    obtain ⟨⟨addr, len⟩, fit⟩ := List.forall_mem_cons.1 fit
    have addr : fitsIn 8 f.addr = true := decide_eq_true addr
    have len : fitsIn 4 f.len = true := decide_eq_true len
    rw [List.map_cons, List.flatten_cons, List.append_assoc, List.length_cons, fragmentsOf,
      List.drop_left' (fragment_bytes_length f), ih fit]
    simp only [Fragment.bytes, List.append_assoc, field_le addr, field_skip (Nat.le_of_eq (le_length 8 f.addr)),
      le_length, Nat.sub_self, field_le len]

/-! ### Capsules -/

theorem ofCode_code (k : Kind) : Kind.ofCode (BitVec.ofNat 8 k.code).toNat = some k := by
  cases k <;> rfl

theorem operandBytes_le (k : Kind) : k.operandBytes ≤ 20 := by
  cases k <;> decide

section
variable (q : Req) (tag : Byte) (l : List Fragment) (rest : List Byte) (m : Master)

theorem capsuleBytes_length :
    (capsuleBytes q tag l).length = 4 + q.kind.operandBytes + 16 * l.length := by
  simp only [capsuleBytes, List.length_append, le_length, List.length_singleton, fragments_length, req_bytes_length]

/-- What stands in a capsule behind its header. -/
theorem drop_header : (capsuleBytes q tag l ++ rest).drop 4 = q.bytes ++ ((l.map Fragment.bytes).flatten ++ rest) := by
  rw [← List.append_assoc]
  rfl

theorem capsule_kind :
    Kind.ofCode (⟨m, capsuleBytes q tag l ++ rest⟩ : Capsule).kindByte.toNat = some q.kind := ofCode_code q.kind

theorem capsule_tag : (⟨m, capsuleBytes q tag l ++ rest⟩ : Capsule).tag = tag := rfl

variable {l}

/-- The stated length of a capsule with up to 16 fragments. -/
theorem capsule_length (few : l.length ≤ 16) :
    (⟨m, capsuleBytes q tag l ++ rest⟩ : Capsule).length = 4 + q.kind.operandBytes + 16 * l.length := by
  have bound := operandBytes_le q.kind
  have fits : fitsIn 2 (4 + q.kind.operandBytes + 16 * l.length) = true := decide_eq_true (by omega)
  simp only [Capsule.length, capsuleBytes, List.append_assoc, req_bytes_length, field_le fits]

theorem capsule_body (few : l.length ≤ 16) :
    (⟨m, capsuleBytes q tag l ++ rest⟩ : Capsule).body = capsuleBytes q tag l := by
  rw [Capsule.body, capsule_length q tag rest m few]
  exact List.take_left' (capsuleBytes_length q tag l)

theorem capsule_shape_node (few : l.length ≤ 16) (n : Node) :
    (⟨.node n, capsuleBytes q tag l ++ rest⟩ : Capsule).shape = some (q.kind, l.length) := by
  have bound := operandBytes_le q.kind
  have count : (4 + q.kind.operandBytes + 16 * l.length - (4 + q.kind.operandBytes)) / 16 = l.length := by omega
  have short : 4 + q.kind.operandBytes + 16 * l.length ≤ 512 := by omega
  simp only [Capsule.shape, capsule_kind, capsule_length q tag rest _ few, count, short, few, decide_true,
    beq_self_eq_true, Bool.and_self, if_true]

theorem capsule_shape_cport : (⟨.cport, capsuleBytes q tag []⟩ : Capsule).shape = some (q.kind, 0) := by
  have bound := operandBytes_le q.kind
  have length := capsule_length (l := []) q tag [] .cport (by decide)
  have kind := capsule_kind q tag [] [] .cport
  rw [List.append_nil] at length kind
  have short : 4 + q.kind.operandBytes ≤ 128 := by omega
  simp only [Capsule.shape, kind, length, List.length_nil, Nat.mul_zero, Nat.add_zero, short, decide_true,
    beq_self_eq_true, Bool.and_self, if_true]

variable {q}

theorem capsule_request (fits : q.fits = true) :
    (⟨m, capsuleBytes q tag l ++ rest⟩ : Capsule).request q.kind = q := by
  rw [Capsule.request, drop_header, List.take_left' (req_bytes_length q), req_ofBytes_bytes fits]

theorem capsule_fragments (fit : ∀ f ∈ l, f.addr < 2 ^ 64 ∧ f.len < 2 ^ 32) :
    (⟨m, capsuleBytes q tag l ++ rest⟩ : Capsule).fragments q.kind l.length = l := by
  rw [Capsule.fragments, ← List.drop_drop, drop_header, List.drop_left' (req_bytes_length q), fragmentsOf_bytes fit]

end

/-- Settles O18: the header, the operands and the fragments are each read back from their place. -/
theorem capsuleBytesRoundTrip : Obligations.CapsuleBytesRoundTrip := by
  intro q tag l rest n fits few fit
  exact ⟨capsule_shape_node q tag rest few n, capsule_tag q tag l rest _, capsule_request tag rest _ fits,
    capsule_fragments tag rest _ fit, capsule_body q tag rest _ few, fun _ => capsule_shape_cport q tag⟩

end Sys2Proof.Machine
end

section
/-! SUPPORT. The configuration image (R183, 13.7): what one entry sets, and the entries one after the other. -/

namespace Sys2Proof.Machine

/-! ### One entry -/

/-- The eight bytes of an entry: the number of its setting, and its value (13.7). -/
def imageEntry (k v : Nat) : List Byte := le 4 k ++ le 4 v

theorem imageEntry_length (k v : Nat) : (imageEntry k v).length = 8 := by
  simp [imageEntry]

section
variable {k v : Nat}

theorem entry_number (hk : k < 4294967296) (rest : List Byte) : field 0 4 (imageEntry k v ++ rest) = k := by
  rw [imageEntry, List.append_assoc]
  exact field_le (decide_eq_true hk) _

/-- A field within the value of an entry. -/
theorem entry_within {offset size : Nat} (low : 4 ≤ offset) (high : offset + size ≤ 8) :
    field offset size (imageEntry k v) = v / 256 ^ (offset - 4) % 256 ^ size := by
  have value := field_within (offset := offset - 4) (size := size) (n := 4) (by omega) v []
  rwa [imageEntry, field_skip (by rwa [le_length]), le_length, ← List.append_nil (le 4 v)]

theorem entry_value (hv : v < 4294967296) : field 4 4 (imageEntry k v) = v := by
  simpa [Nat.mod_eq_of_lt hv] using entry_within (k := k) (v := v) (offset := 4) (size := 4) (by omega) (by omega)

theorem entry_class : field 4 1 (imageEntry k v) = v % 256 := by
  simpa using entry_within (k := k) (v := v) (offset := 4) (size := 1) (by omega) (by omega)

theorem entry_flags : field 5 1 (imageEntry k v) = v / 256 % 256 := by
  simpa using entry_within (k := k) (v := v) (offset := 5) (size := 1) (by omega) (by omega)

theorem entry_period (hv : v < 4294967296) : field 6 2 (imageEntry k v) = v / 65536 := by
  have small : v / 65536 < 65536 := by omega
  simpa [Nat.mod_eq_of_lt small] using
    entry_within (k := k) (v := v) (offset := 6) (size := 2) (by omega) (by omega)

theorem routable_iff (n : Nat) : routable n = true ↔ 2 ≤ n ∧ n ≤ 10 := by
  simp [routable]

theorem imageClass_entry (hv : v < 4294967296) : imageClass (imageEntry k v) =
    ⟨(v / 256 % 256).testBit 0, min 36500 (v / 65536), (v / 256 % 256).testBit 1, (v / 256 % 256).testBit 2⟩ := by
  simp only [imageClass, entry_flags, entry_period hv, clamp, Nat.zero_max]
  rfl

/-- What an entry makes of the settings. -/
def Loaded.settingsAfter (marker : Bool) (s : Settings) (k v : Nat) : Settings :=
  match k with
  | 1 => { s with cportAddr := BitVec.ofNat 7 (max 8 (min 0x77 v)) }
  | 2 => { s with cmodeN := max 2 (min 15 v) }
  | 3 => { s with openTimeout := max 10 (min 3600 v) }
  | 4 => { s with holdoverTime := max 60 (min 86400 v) }
  | 5 => { s with partialTime := max 10 (min 600 v) }
  | 6 => { s with arbiter := if v = 0 then .fixed else .rotating }
  | 7 => if 2 ≤ v % 256 ∧ v % 256 ≤ 10 then s else { s with skipped := s.skipped + 1 }
  | 20 => if marker = true ∨ v % 256 < 16 then s else { s with skipped := s.skipped + 1 }
  | _ => if 16 ≤ k ∧ k ≤ 19 then s else { s with skipped := s.skipped + 1 }

/-- What an entry makes of all that the loader has read, as R183 says it. -/
def Loaded.entered (marker : Bool) (l : Loaded) (k v : Nat) : Loaded where
  settings := Loaded.settingsAfter marker l.settings k v
  routes :=
    if k = 7 ∧ 2 ≤ v % 256 ∧ v % 256 ≤ 10 then l.routes.set (v % 256) (Route.ofByte (v / 256 % 256)) else l.routes
  journalBase := if k = 16 ∧ marker = false then v else l.journalBase
  journalPages := if k = 17 ∧ marker = false then max 1024 (min 1048576 v) else l.journalPages
  journalEntries := if (k = 16 ∨ k = 17) ∧ marker = false then l.journalEntries + 1 else l.journalEntries
  dataBase := if k = 18 ∧ marker = false then some v else l.dataBase
  dataSize := if k = 19 ∧ marker = false then v else l.dataSize
  dataEntries := if (k = 18 ∨ k = 19) ∧ marker = false then l.dataEntries + 1 else l.dataEntries
  classes := if k = 20 ∧ marker = false ∧ v % 256 < 16 then
    l.classes.set (v % 256)
      ⟨(v / 256 % 256).testBit 0, min 36500 (v / 65536), (v / 256 % 256).testBit 1, (v / 256 % 256).testBit 2⟩
    else l.classes

/-- The loader's action on an entry, its fields read and clamped (R183, 13.7). -/
theorem apply_entry (marker : Bool) (l : Loaded) (hk : k < 4294967296) (hv : v < 4294967296) :
    l.apply marker (imageEntry k v) = l.entered marker k v := by
  have number : field 0 4 (imageEntry k v) = k := by simpa using entry_number hk (v := v) []
  unfold Loaded.apply
  simp only [number, entry_value hv, entry_class, entry_flags, imageClass_entry hv]
  split
  case h_7 => -- a route
    by_cases c : 2 ≤ v % 256 ∧ v % 256 ≤ 10 <;>
      simp [Loaded.entered, Loaded.settingsAfter, Loaded.skip, routable_iff, c]
  case h_12 => -- a class entry
    by_cases c : v % 256 < 16 <;> cases marker <;>
      simp [Loaded.entered, Loaded.settingsAfter, Loaded.skip, c]
  case h_8 | h_9 | h_10 | h_11 => -- the regions
    cases marker <;> simp [Loaded.entered, Loaded.settingsAfter, clamp]
  case h_13 => -- an unknown number
    have no_region_number : ¬ (16 ≤ k ∧ k ≤ 19) := by
      rintro ⟨low, high⟩
      interval_cases k <;> contradiction
    simp_all [Loaded.entered, Loaded.settingsAfter, Loaded.skip]
  all_goals simp [Loaded.entered, Loaded.settingsAfter, clamp]

end

/-! ### The entries one after the other -/

/-- An entry that the loader takes: a number that is not 0, number and value of 32 bits. -/
def ValidEntry (e : Nat × Nat) : Prop := 0 < e.1 ∧ e.1 < 4294967296 ∧ e.2 < 4294967296

/-- The bytes of entries in their order. -/
def imageBytes (es : List (Nat × Nat)) : List Byte := (es.map (fun e => imageEntry e.1 e.2)).flatten

theorem imageBytes_cons (e : Nat × Nat) (es : List (Nat × Nat)) (rest : List Byte) :
    imageBytes (e :: es) ++ rest = imageEntry e.1 e.2 ++ (imageBytes es ++ rest) := by
  simp [imageBytes]

theorem take_entry (k v : Nat) (rest : List Byte) : (imageEntry k v ++ rest).take 8 = imageEntry k v :=
  List.take_left' (imageEntry_length k v)

/-- What the loader has read after some entries. -/
def Loaded.applyAll (marker : Bool) (l : Loaded) (es : List (Nat × Nat)) : Loaded :=
  es.foldl (fun l e => l.apply marker (imageEntry e.1 e.2)) l

section
variable (marker : Bool) (l : Loaded)

theorem read_entry {e : Nat × Nat} (valid : ValidEntry e) (n : Nat) (rest : List Byte) :
    Loaded.read marker (n + 1) (imageEntry e.1 e.2 ++ rest) l =
      Loaded.read marker n rest (l.apply marker (imageEntry e.1 e.2)) := by
  obtain ⟨positive, number, _⟩ := valid
  have left : (imageEntry e.1 e.2 ++ rest).drop 8 = rest := List.drop_left' (imageEntry_length ..)
  have first : field 0 4 (imageEntry e.1 e.2) = e.1 := by simpa using entry_number number (v := e.2) []
  simp only [Loaded.read, take_entry, left, first, imageEntry_length, Nat.lt_irrefl, if_false, positive.ne']

/-- Fewer than 8 bytes are no whole entry. -/
theorem read_short {image : List Byte} (short : image.length < 8) (n : Nat) : Loaded.read marker n image l = l := by
  cases n with
  | zero => rfl
  | succ n => exact if_pos (by rw [List.length_take]; omega)

/-- The end entry stops the reading, whole or cut short. -/
theorem read_end (rest : List Byte) (n : Nat) : Loaded.read marker n ([0, 0, 0, 0] ++ rest) l = l := by
  cases n with
  | zero => rfl
  | succ n =>
    have first : field 0 4 (([0, 0, 0, 0] ++ rest).take 8) = 0 := rfl
    simp only [Loaded.read, first, if_true, ite_self]

/-- The entries act in their order, as many as the loader reads. -/
theorem read_entries {es : List (Nat × Nat)} (valid : ∀ e ∈ es, ValidEntry e) (n : Nat) (rest : List Byte) :
    Loaded.read marker n (imageBytes es ++ rest) l =
      Loaded.read marker (n - es.length) rest (l.applyAll marker (es.take n)) := by
  induction es generalizing n l with
  | nil => simp [imageBytes, Loaded.applyAll]
  | cons e es ih =>
    obtain ⟨first, others⟩ := List.forall_mem_cons.1 valid
    cases n with
    | zero => simp [Loaded.read, Loaded.applyAll]
    | succ n =>
      rw [imageBytes_cons, read_entry marker l first, ih _ others, List.length_cons, Nat.add_sub_add_right]
      rfl

end

/-! ### The image -/

/-- A first entry that does not read as erased memory makes the image present. -/
theorem imageAbsent_entry {e : Nat × Nat} (number : e.1 < 4294967296) (value : e.2 < 4294967296)
    (written : e ≠ (4294967295, 4294967295)) (rest : List Byte) :
    imageAbsent (imageEntry e.1 e.2 ++ rest) = false := by
  have entry : imageEntry e.1 e.2 ≠ List.replicate 8 0xFF := by
    intro erased
    have first := entry_number number (v := e.2) []
    have second := entry_value value (k := e.1)
    rw [List.append_nil, erased] at first
    rw [erased] at second
    exact written (Prod.ext first.symm second.symm)
  have nonempty : (imageEntry e.1 e.2 ++ rest).isEmpty = false := by
    rw [List.isEmpty_eq_false_iff]
    exact List.ne_nil_of_length_pos (by rw [List.length_append, imageEntry_length]; omega)
  rw [imageAbsent, take_entry, nonempty, Bool.or_false, beq_eq_false_iff_ne]
  exact entry

theorem loadImage_of_entry (marker : Bool) {e : Nat × Nat} (number : e.1 < 4294967296) (value : e.2 < 4294967296)
    (written : e ≠ (4294967295, 4294967295)) (rest : List Byte) :
    loadImage marker (imageEntry e.1 e.2 ++ rest) =
      Loaded.read marker 4096 (imageEntry e.1 e.2 ++ rest) Loaded.defaults := by
  simp only [loadImage, imageAbsent_entry number value written, Bool.false_eq_true, if_false]

theorem loadImage_entries (marker : Bool) {es : List (Nat × Nat)} (valid : ∀ e ∈ es, ValidEntry e)
    (some_entry : es ≠ []) (written : es.head? ≠ some (4294967295, 4294967295)) (rest : List Byte) :
    loadImage marker (imageBytes es ++ rest) =
      Loaded.read marker (4096 - es.length) rest (Loaded.defaults.applyAll marker (es.take 4096)) := by
  rw [← read_entries marker _ valid]
  cases es with
  | nil => exact absurd rfl some_entry
  | cons e es =>
    obtain ⟨_, number, value⟩ := valid e List.mem_cons_self
    rw [imageBytes_cons]
    exact loadImage_of_entry marker number value (fun erased => written (congrArg some erased)) _

theorem loadImage_erased (marker : Bool) (rest : List Byte) :
    loadImage marker (List.replicate 8 0xFF ++ rest) = Loaded.defaults :=
  if_pos (by rw [imageAbsent, List.take_left' List.length_replicate, beq_self_eq_true, Bool.true_or])

/-- An image of one entry: nothing where it is the end entry, and else what the entry makes of the defaults. -/
theorem loadImage_single (marker : Bool) {k v : Nat} (hk : k < 4294967296) (hv : v < 4294967296)
    (written : ¬ (k = 4294967295 ∧ v = 4294967295)) : loadImage marker (imageEntry k v) =
      if k = 0 then Loaded.defaults else Loaded.defaults.entered marker k v := by
  have written : (k, v) ≠ (4294967295, 4294967295) := fun erased => written (Prod.mk.inj erased)
  split
  · next zero =>
    subst zero
    have load := loadImage_of_entry marker hk hv written []
    have ended : imageEntry 0 v = [0, 0, 0, 0] ++ le 4 v := rfl
    rw [List.append_nil] at load
    rw [load, ended, read_end]
  · next positive =>
    have load := loadImage_entries marker (es := [(k, v)])
      (by simpa [ValidEntry] using ⟨Nat.pos_of_ne_zero positive, hk, hv⟩) (List.cons_ne_nil _ _)
      (fun erased => written (Option.some.inj erased)) []
    rw [read_short _ _ (by decide)] at load
    simpa [imageBytes, Loaded.applyAll, apply_entry marker _ hk hv] using load

/-- Settles O6: an entry by `apply_entry`, the entries by `loadImage_entries`, an image of one by `loadImage_single`. -/
theorem imageEntriesAreClamped : Obligations.ImageEntriesAreClamped := by
  refine ⟨fun marker l k v hk hv => ?_, fun marker es rest valid some_entry written => ?_,
    fun marker => ⟨rfl, loadImage_erased marker⟩, fun marker k v hk hv written => ?_⟩
  · have applied : l.apply marker (le 4 k ++ le 4 v) = l.entered marker k v := apply_entry marker l hk hv
    rw [applied]
    exact ⟨rfl, rfl, rfl, rfl, rfl, rfl, rfl⟩
  · have load := loadImage_entries marker valid some_entry written
    refine ⟨?_, fun short => (load rest).trans (read_short _ _ short _), fun many => ?_⟩
    · have ended := load ([0, 0, 0, 0] ++ rest)
      rw [read_end, ← List.append_assoc] at ended
      exact ended
    · have full := load rest
      rw [Nat.sub_eq_zero_of_le many] at full
      exact full
  · have single : loadImage marker (le 4 k ++ le 4 v) = _ := loadImage_single marker hk hv written
    rw [single]
    by_cases zero : k = 0
    · subst zero
      exact ⟨rfl, rfl, rfl⟩
    · rw [if_neg zero]
      refine ⟨?_, rfl, rfl⟩
      show Loaded.settingsAfter marker Settings.reset k v = _
      unfold Loaded.settingsAfter
      split
      case h_7 | h_8 => -- routes and classes, which skip what lies outside their range
        split <;> simp_all [Settings.reset]
      case h_9 => -- the regions and the unknown numbers
        simp_all [Settings.reset, apply_ite]
      all_goals rfl

end Sys2Proof.Machine
end
